-- ==== Sys2Proof/Word.lean ====
section
/-! DEFINITION. The word types of the machine: the 8-bit byte every access moves, the 16-bit word of `PC` and of CPU
addresses (R9, R11), the 14-bit address of the PPU bus (R60) and the 15-bit loopy register (R47). -/

namespace Sys2Proof

/-- The unit of addressing and of every access (R60, R83). -/
abbrev Byte := BitVec 8

/-- A CPU address, and the width of `PC` (R9, R23). -/
abbrev Word := BitVec 16

/-- An address of the PPU bus: 14 bits (R60). -/
abbrev PpuAddr := BitVec 14

/-- The loopy register `v` or `t`: 15 bits (R47). -/
abbrev Loopy := BitVec 15

/-- An entry of the 64-colour system palette table (R10, R53). -/
structure Rgb where
  red : Byte
  green : Byte
  blue : Byte
deriving DecidableEq, Repr, Inhabited

end Sys2Proof
end

