-- ==== Sys2Proof/Machine/Bits.lean ====
section
/-! DEFINITION. Byte order and sign extension: the two bytes of a word (little-endian, R71, R114) and `sext_8` (R13). -/

namespace Sys2Proof.Machine

/-- `{hi, lo}` (R11, R71). -/
def wordOf (lo hi : Byte) : Word := BitVec.ofNat 16 (hi.toNat * 256 + lo.toNat)

/-- `w[7:0]`. -/
def loByte (w : Word) : Byte := BitVec.ofNat 8 w.toNat

/-- `w[15:8]`: the page of an address (R16). -/
def hiByte (w : Word) : Byte := BitVec.ofNat 8 (w.toNat / 256)

/-- `zext_16` (R13, R114). -/
def zext16 (b : Byte) : Word := BitVec.ofNat 16 b.toNat

/-- `sext_8` (R13) at the width of an address (R121). -/
def sext16 (b : Byte) : Word := b.signExtend 16

/-- The bit `v[i]` as a byte, 0 or 1. -/
def bitByte (b : Bool) : Byte := if b then 1#8 else 0#8

/-- `bitreverse8` (R430): exchanges bit i with bit 7 − i. -/
def bitReverse8 (b : Byte) : Byte :=
  BitVec.ofNat 8
    ((b.getLsbD 0).toNat * 128 + (b.getLsbD 1).toNat * 64 + (b.getLsbD 2).toNat * 32 + (b.getLsbD 3).toNat * 16 +
      (b.getLsbD 4).toNat * 8 + (b.getLsbD 5).toNat * 4 + (b.getLsbD 6).toNat * 2 + (b.getLsbD 7).toNat)

end Sys2Proof.Machine
end

