-- ==== Sys2Proof/Config.lean ====
section
/-! DEFINITION. What is fixed for one machine and what the spec leaves open (00_scope.md R10). Open parameters and free
values are opaque constants: no proof can see what they are. The numeric parameters that the spec does fix and a later
test could show wrong are in Machine/Params.lean. -/

namespace Sys2Proof

/-- `DOT_RATE_HZ` (R10, R365): the number of `Bus.clock()` calls per second of emulated time. -/
def Config.dotRateHz : Nat := 5369318

/-- `SAMPLE_RATE_HZ` minus one. OPEN (R10, R365, 93_implementation_defined.md U4): the host's audio rate, of which only
`0 < SAMPLE_RATE_HZ ≤ DOT_RATE_HZ` is known. Log 8. -/
opaque Config.sampleRateIndex : Fin 5369318

/-- `SAMPLE_RATE_HZ` (R365), somewhere in `1 .. DOT_RATE_HZ`. Log 8. -/
def Config.sampleRateHz : Nat := Config.sampleRateIndex.val + 1

/-- `SYSTEM_PALETTE` (R10, R53): OPEN. Log 9. -/
opaque Config.systemPalette : BitVec 6 → Rgb

/-- A free value: the pattern byte read for a sprite slot whose row lies outside the sprite height at the fetch dot,
which R428 excludes in words but which a change of `ctrl.sprite_size` between the two dots produces. Log 10. -/
opaque Config.freePatternByte : Nat → Byte

end Sys2Proof
end

