-- ==== Sys2Proof/Syntax.lean ====
section
/-! DEFINITION. The abstract syntax: the operand forms (R17, R115 to R127) and ONE inductive `Instr` with a constructor
for every mnemonic of spec/opcode_table.json; the rows of one mnemonic are the operand forms of its constructor. Which
forms a mnemonic has is WellFormed.lean's. -/

namespace Sys2Proof

/-- A memory operand: the addressing modes that compute an effective address from operand bytes (R118 to R120, R122 to
R124, R126, R127). The payload is the operand byte `b1` or the little-endian word `{b2, b1}` (R114). -/
inductive MemOperand where
  | zp0 (b : Byte)
  | zpx (b : Byte)
  | zpy (b : Byte)
  | abs (w : Word)
  | abx (w : Word)
  | aby (w : Word)
  | izx (b : Byte)
  | izy (b : Byte)
deriving DecidableEq, Repr

/-- What a reading instruction reads: the immediate byte (`IMM`, R117) or the byte at a memory operand. -/
inductive ReadOperand where
  | imm (v : Byte)
  | mem (m : MemOperand)
deriving DecidableEq, Repr

/-- What a shift or rotate works on: `A` (`ACC`, R116) or the byte at a memory operand. -/
inductive ShiftOperand where
  | acc
  | mem (m : MemOperand)
deriving DecidableEq, Repr

/-- The target of `JMP`: `ABS` (R122) or `IND` (R125). -/
inductive JumpTarget where
  | abs (w : Word)
  | ind (w : Word)
deriving DecidableEq, Repr

/-- The instruction set (R2, R111): 56 documented mnemonics and the 105 undocumented opcodes. A branch carries its
offset byte (`REL`, R121). -/
inductive Instr where
  -- Load, store, transfer (40_load_store_transfer.md)
  | lda (m : ReadOperand)
  | ldx (m : ReadOperand)
  | ldy (m : ReadOperand)
  | sta (m : MemOperand)
  | stx (m : MemOperand)
  | sty (m : MemOperand)
  | tax
  | tay
  | txa
  | tya
  | tsx
  | txs
  -- Arithmetic, logic, compare (41_arithmetic_logic.md)
  | adc (m : ReadOperand)
  | sbc (m : ReadOperand)
  | and (m : ReadOperand)
  | ora (m : ReadOperand)
  | eor (m : ReadOperand)
  | bit (m : MemOperand)
  | cmp (m : ReadOperand)
  | cpx (m : ReadOperand)
  | cpy (m : ReadOperand)
  -- Shift, rotate, increment, decrement (42_shift_incdec.md)
  | asl (m : ShiftOperand)
  | lsr (m : ShiftOperand)
  | rol (m : ShiftOperand)
  | ror (m : ShiftOperand)
  | inc (m : MemOperand)
  | dec (m : MemOperand)
  | inx
  | iny
  | dex
  | dey
  -- Control transfer (43_control_flow.md)
  | jmp (t : JumpTarget)
  | jsr (w : Word)
  | rts
  | bcc (off : Byte)
  | bcs (off : Byte)
  | beq (off : Byte)
  | bne (off : Byte)
  | bmi (off : Byte)
  | bpl (off : Byte)
  | bvc (off : Byte)
  | bvs (off : Byte)
  -- Stack, flags, system (44_stack_flags_system.md)
  | pha
  | pla
  | php
  | plp
  | clc
  | sec
  | cli
  | sei
  | cld
  | sed
  | clv
  | nop
  | brk
  | rti
  -- Undocumented opcodes (45_undocumented.md R250, R251)
  | und02
  | und03
  | und04
  | und07
  | und0B
  | und0C
  | und0F
  | und12
  | und13
  | und14
  | und17
  | und1A
  | und1B
  | und1C
  | und1F
  | und22
  | und23
  | und27
  | und2B
  | und2F
  | und32
  | und33
  | und34
  | und37
  | und3A
  | und3B
  | und3C
  | und3F
  | und42
  | und43
  | und44
  | und47
  | und4B
  | und4F
  | und52
  | und53
  | und54
  | und57
  | und5A
  | und5B
  | und5C
  | und5F
  | und62
  | und63
  | und64
  | und67
  | und6B
  | und6F
  | und72
  | und73
  | und74
  | und77
  | und7A
  | und7B
  | und7C
  | und7F
  | und80
  | und82
  | und83
  | und87
  | und89
  | und8B
  | und8F
  | und92
  | und93
  | und97
  | und9B
  | und9C
  | und9E
  | und9F
  | undA3
  | undA7
  | undAB
  | undAF
  | undB2
  | undB3
  | undB7
  | undBB
  | undBF
  | undC2
  | undC3
  | undC7
  | undCB
  | undCF
  | undD2
  | undD3
  | undD4
  | undD7
  | undDA
  | undDB
  | undDC
  | undDF
  | undE2
  | undE3
  | undE7
  | undEB
  | undEF
  | undF2
  | undF3
  | undF4
  | undF7
  | undFA
  | undFB
  | undFC
  | undFF
deriving DecidableEq, Repr

end Sys2Proof
end

