-- ==== Sys2Proof/WellFormed.lean ====
section
/-! DEFINITION. Well-formedness: which operand forms each mnemonic has in the opcode map (R111). Every value of the
operand bytes is legal (R130), so the form is all there is to check. Terms that fail the check have no encoding. -/

namespace Sys2Proof

/-- The eight forms of `LDA ADC SBC AND ORA EOR CMP`: every reading form but `ZPY` (R150, R170 to R174, R176). -/
def ReadOperand.isAccumulatorForm : ReadOperand → Bool
  | .imm _ => true
  | .mem (.zpy _) => false
  | .mem _ => true

/-- The forms of `LDX` (R151): `IMM ZP0 ZPY ABS ABY`. -/
def ReadOperand.isLdxForm : ReadOperand → Bool
  | .imm _ | .mem (.zp0 _) | .mem (.zpy _) | .mem (.abs _) | .mem (.aby _) => true
  | _ => false

/-- The forms of `LDY` (R152): `IMM ZP0 ZPX ABS ABX`. -/
def ReadOperand.isLdyForm : ReadOperand → Bool
  | .imm _ | .mem (.zp0 _) | .mem (.zpx _) | .mem (.abs _) | .mem (.abx _) => true
  | _ => false

/-- The forms of `CPX` and `CPY` (R177, R178): `IMM ZP0 ABS`. -/
def ReadOperand.isIndexCompareForm : ReadOperand → Bool
  | .imm _ | .mem (.zp0 _) | .mem (.abs _) => true
  | _ => false

/-- The forms of `STA` (R153): every memory form but `ZPY`. -/
def MemOperand.isStaForm : MemOperand → Bool
  | .zpy _ => false
  | _ => true

/-- The forms of `STX` (R154): `ZP0 ZPY ABS`. -/
def MemOperand.isStxForm : MemOperand → Bool
  | .zp0 _ | .zpy _ | .abs _ => true
  | _ => false

/-- The forms of `STY` (R155): `ZP0 ZPX ABS`. -/
def MemOperand.isStyForm : MemOperand → Bool
  | .zp0 _ | .zpx _ | .abs _ => true
  | _ => false

/-- The forms of `BIT` (R175): `ZP0 ABS`. -/
def MemOperand.isBitForm : MemOperand → Bool
  | .zp0 _ | .abs _ => true
  | _ => false

/-- The memory forms of the read-modify-write instructions (R190 to R195): `ZP0 ZPX ABS ABX`. -/
def MemOperand.isModifyForm : MemOperand → Bool
  | .zp0 _ | .zpx _ | .abs _ | .abx _ => true
  | _ => false

/-- The forms of the shifts and rotates (R190 to R193): `ACC` and the read-modify-write memory forms. -/
def ShiftOperand.isShiftForm : ShiftOperand → Bool
  | .acc => true
  | .mem m => m.isModifyForm

/-- The instruction is a row of the opcode map (R111): its mnemonic has its operand form. -/
def Instr.wf : Instr → Bool
  | .lda m | .adc m | .sbc m | .and m | .ora m | .eor m | .cmp m => m.isAccumulatorForm
  | .ldx m => m.isLdxForm
  | .ldy m => m.isLdyForm
  | .cpx m | .cpy m => m.isIndexCompareForm
  | .sta m => m.isStaForm
  | .stx m => m.isStxForm
  | .sty m => m.isStyForm
  | .bit m => m.isBitForm
  | .asl m | .lsr m | .rol m | .ror m => m.isShiftForm
  | .inc m | .dec m => m.isModifyForm
  | .jmp _ | .jsr _ | .bcc _ | .bcs _ | .beq _ | .bne _ | .bmi _ | .bpl _ | .bvc _ | .bvs _ | .brk | .und02
  | .und03 | .und04 | .und07 | .php | .und0B | .und0C | .und0F | .und12 | .und13 | .und14 | .und17 | .clc
  | .und1A | .und1B | .und1C | .und1F | .und22 | .und23 | .und27 | .plp | .und2B | .und2F | .und32 | .und33
  | .und34 | .und37 | .sec | .und3A | .und3B | .und3C | .und3F | .rti | .und42 | .und43 | .und44 | .und47
  | .pha | .und4B | .und4F | .und52 | .und53 | .und54 | .und57 | .cli | .und5A | .und5B | .und5C | .und5F
  | .rts | .und62 | .und63 | .und64 | .und67 | .pla | .und6B | .und6F | .und72 | .und73 | .und74 | .und77
  | .sei | .und7A | .und7B | .und7C | .und7F | .und80 | .und82 | .und83 | .und87 | .dey | .und89 | .txa
  | .und8B | .und8F | .und92 | .und93 | .und97 | .tya | .txs | .und9B | .und9C | .und9E | .und9F | .undA3
  | .undA7 | .tay | .tax | .undAB | .undAF | .undB2 | .undB3 | .undB7 | .clv | .tsx | .undBB | .undBF | .undC2
  | .undC3 | .undC7 | .iny | .dex | .undCB | .undCF | .undD2 | .undD3 | .undD4 | .undD7 | .cld | .undDA
  | .undDB | .undDC | .undDF | .undE2 | .undE3 | .undE7 | .inx | .nop | .undEB | .undEF | .undF2 | .undF3
  | .undF4 | .undF7 | .sed | .undFA | .undFB | .undFC | .undFF => true

end Sys2Proof
end

