-- ==== Sys2Proof/Decode.lean ====
section
/-! DEFINITION. The decoder, total on any bytes, and after it the encoder. Both are written from the opcode map of
30_encoding.md R111: `decodeRow` has a match for each row of that table (the high nibble of the opcode) and the match has
an arm for each column (the low nibble); an undocumented cell decodes to its own constructor, of length 1 (R112, R130). -/

namespace Sys2Proof

open Sys2Proof.Machine

/-- Row 0x of the opcode map (R111). -/
def decodeRow0 (lo : Nat) (b1 b2 : Byte) : Instr :=
  match lo with
  | 0 => .brk
  | 1 => .ora (.mem (.izx b1))
  | 2 => .und02
  | 3 => .und03
  | 4 => .und04
  | 5 => .ora (.mem (.zp0 b1))
  | 6 => .asl (.mem (.zp0 b1))
  | 7 => .und07
  | 8 => .php
  | 9 => .ora (.imm b1)
  | 10 => .asl .acc
  | 11 => .und0B
  | 12 => .und0C
  | 13 => .ora (.mem (.abs (wordOf b1 b2)))
  | 14 => .asl (.mem (.abs (wordOf b1 b2)))
  | _ => .und0F

/-- Row 1x of the opcode map (R111). -/
def decodeRow1 (lo : Nat) (b1 b2 : Byte) : Instr :=
  match lo with
  | 0 => .bpl b1
  | 1 => .ora (.mem (.izy b1))
  | 2 => .und12
  | 3 => .und13
  | 4 => .und14
  | 5 => .ora (.mem (.zpx b1))
  | 6 => .asl (.mem (.zpx b1))
  | 7 => .und17
  | 8 => .clc
  | 9 => .ora (.mem (.aby (wordOf b1 b2)))
  | 10 => .und1A
  | 11 => .und1B
  | 12 => .und1C
  | 13 => .ora (.mem (.abx (wordOf b1 b2)))
  | 14 => .asl (.mem (.abx (wordOf b1 b2)))
  | _ => .und1F

/-- Row 2x of the opcode map (R111). -/
def decodeRow2 (lo : Nat) (b1 b2 : Byte) : Instr :=
  match lo with
  | 0 => .jsr (wordOf b1 b2)
  | 1 => .and (.mem (.izx b1))
  | 2 => .und22
  | 3 => .und23
  | 4 => .bit (.zp0 b1)
  | 5 => .and (.mem (.zp0 b1))
  | 6 => .rol (.mem (.zp0 b1))
  | 7 => .und27
  | 8 => .plp
  | 9 => .and (.imm b1)
  | 10 => .rol .acc
  | 11 => .und2B
  | 12 => .bit (.abs (wordOf b1 b2))
  | 13 => .and (.mem (.abs (wordOf b1 b2)))
  | 14 => .rol (.mem (.abs (wordOf b1 b2)))
  | _ => .und2F

/-- Row 3x of the opcode map (R111). -/
def decodeRow3 (lo : Nat) (b1 b2 : Byte) : Instr :=
  match lo with
  | 0 => .bmi b1
  | 1 => .and (.mem (.izy b1))
  | 2 => .und32
  | 3 => .und33
  | 4 => .und34
  | 5 => .and (.mem (.zpx b1))
  | 6 => .rol (.mem (.zpx b1))
  | 7 => .und37
  | 8 => .sec
  | 9 => .and (.mem (.aby (wordOf b1 b2)))
  | 10 => .und3A
  | 11 => .und3B
  | 12 => .und3C
  | 13 => .and (.mem (.abx (wordOf b1 b2)))
  | 14 => .rol (.mem (.abx (wordOf b1 b2)))
  | _ => .und3F

/-- Row 4x of the opcode map (R111). -/
def decodeRow4 (lo : Nat) (b1 b2 : Byte) : Instr :=
  match lo with
  | 0 => .rti
  | 1 => .eor (.mem (.izx b1))
  | 2 => .und42
  | 3 => .und43
  | 4 => .und44
  | 5 => .eor (.mem (.zp0 b1))
  | 6 => .lsr (.mem (.zp0 b1))
  | 7 => .und47
  | 8 => .pha
  | 9 => .eor (.imm b1)
  | 10 => .lsr .acc
  | 11 => .und4B
  | 12 => .jmp (.abs (wordOf b1 b2))
  | 13 => .eor (.mem (.abs (wordOf b1 b2)))
  | 14 => .lsr (.mem (.abs (wordOf b1 b2)))
  | _ => .und4F

/-- Row 5x of the opcode map (R111). -/
def decodeRow5 (lo : Nat) (b1 b2 : Byte) : Instr :=
  match lo with
  | 0 => .bvc b1
  | 1 => .eor (.mem (.izy b1))
  | 2 => .und52
  | 3 => .und53
  | 4 => .und54
  | 5 => .eor (.mem (.zpx b1))
  | 6 => .lsr (.mem (.zpx b1))
  | 7 => .und57
  | 8 => .cli
  | 9 => .eor (.mem (.aby (wordOf b1 b2)))
  | 10 => .und5A
  | 11 => .und5B
  | 12 => .und5C
  | 13 => .eor (.mem (.abx (wordOf b1 b2)))
  | 14 => .lsr (.mem (.abx (wordOf b1 b2)))
  | _ => .und5F

/-- Row 6x of the opcode map (R111). -/
def decodeRow6 (lo : Nat) (b1 b2 : Byte) : Instr :=
  match lo with
  | 0 => .rts
  | 1 => .adc (.mem (.izx b1))
  | 2 => .und62
  | 3 => .und63
  | 4 => .und64
  | 5 => .adc (.mem (.zp0 b1))
  | 6 => .ror (.mem (.zp0 b1))
  | 7 => .und67
  | 8 => .pla
  | 9 => .adc (.imm b1)
  | 10 => .ror .acc
  | 11 => .und6B
  | 12 => .jmp (.ind (wordOf b1 b2))
  | 13 => .adc (.mem (.abs (wordOf b1 b2)))
  | 14 => .ror (.mem (.abs (wordOf b1 b2)))
  | _ => .und6F

/-- Row 7x of the opcode map (R111). -/
def decodeRow7 (lo : Nat) (b1 b2 : Byte) : Instr :=
  match lo with
  | 0 => .bvs b1
  | 1 => .adc (.mem (.izy b1))
  | 2 => .und72
  | 3 => .und73
  | 4 => .und74
  | 5 => .adc (.mem (.zpx b1))
  | 6 => .ror (.mem (.zpx b1))
  | 7 => .und77
  | 8 => .sei
  | 9 => .adc (.mem (.aby (wordOf b1 b2)))
  | 10 => .und7A
  | 11 => .und7B
  | 12 => .und7C
  | 13 => .adc (.mem (.abx (wordOf b1 b2)))
  | 14 => .ror (.mem (.abx (wordOf b1 b2)))
  | _ => .und7F

/-- Row 8x of the opcode map (R111). -/
def decodeRow8 (lo : Nat) (b1 b2 : Byte) : Instr :=
  match lo with
  | 0 => .und80
  | 1 => .sta (.izx b1)
  | 2 => .und82
  | 3 => .und83
  | 4 => .sty (.zp0 b1)
  | 5 => .sta (.zp0 b1)
  | 6 => .stx (.zp0 b1)
  | 7 => .und87
  | 8 => .dey
  | 9 => .und89
  | 10 => .txa
  | 11 => .und8B
  | 12 => .sty (.abs (wordOf b1 b2))
  | 13 => .sta (.abs (wordOf b1 b2))
  | 14 => .stx (.abs (wordOf b1 b2))
  | _ => .und8F

/-- Row 9x of the opcode map (R111). -/
def decodeRow9 (lo : Nat) (b1 b2 : Byte) : Instr :=
  match lo with
  | 0 => .bcc b1
  | 1 => .sta (.izy b1)
  | 2 => .und92
  | 3 => .und93
  | 4 => .sty (.zpx b1)
  | 5 => .sta (.zpx b1)
  | 6 => .stx (.zpy b1)
  | 7 => .und97
  | 8 => .tya
  | 9 => .sta (.aby (wordOf b1 b2))
  | 10 => .txs
  | 11 => .und9B
  | 12 => .und9C
  | 13 => .sta (.abx (wordOf b1 b2))
  | 14 => .und9E
  | _ => .und9F

/-- Row Ax of the opcode map (R111). -/
def decodeRowA (lo : Nat) (b1 b2 : Byte) : Instr :=
  match lo with
  | 0 => .ldy (.imm b1)
  | 1 => .lda (.mem (.izx b1))
  | 2 => .ldx (.imm b1)
  | 3 => .undA3
  | 4 => .ldy (.mem (.zp0 b1))
  | 5 => .lda (.mem (.zp0 b1))
  | 6 => .ldx (.mem (.zp0 b1))
  | 7 => .undA7
  | 8 => .tay
  | 9 => .lda (.imm b1)
  | 10 => .tax
  | 11 => .undAB
  | 12 => .ldy (.mem (.abs (wordOf b1 b2)))
  | 13 => .lda (.mem (.abs (wordOf b1 b2)))
  | 14 => .ldx (.mem (.abs (wordOf b1 b2)))
  | _ => .undAF

/-- Row Bx of the opcode map (R111). -/
def decodeRowB (lo : Nat) (b1 b2 : Byte) : Instr :=
  match lo with
  | 0 => .bcs b1
  | 1 => .lda (.mem (.izy b1))
  | 2 => .undB2
  | 3 => .undB3
  | 4 => .ldy (.mem (.zpx b1))
  | 5 => .lda (.mem (.zpx b1))
  | 6 => .ldx (.mem (.zpy b1))
  | 7 => .undB7
  | 8 => .clv
  | 9 => .lda (.mem (.aby (wordOf b1 b2)))
  | 10 => .tsx
  | 11 => .undBB
  | 12 => .ldy (.mem (.abx (wordOf b1 b2)))
  | 13 => .lda (.mem (.abx (wordOf b1 b2)))
  | 14 => .ldx (.mem (.aby (wordOf b1 b2)))
  | _ => .undBF

/-- Row Cx of the opcode map (R111). -/
def decodeRowC (lo : Nat) (b1 b2 : Byte) : Instr :=
  match lo with
  | 0 => .cpy (.imm b1)
  | 1 => .cmp (.mem (.izx b1))
  | 2 => .undC2
  | 3 => .undC3
  | 4 => .cpy (.mem (.zp0 b1))
  | 5 => .cmp (.mem (.zp0 b1))
  | 6 => .dec (.zp0 b1)
  | 7 => .undC7
  | 8 => .iny
  | 9 => .cmp (.imm b1)
  | 10 => .dex
  | 11 => .undCB
  | 12 => .cpy (.mem (.abs (wordOf b1 b2)))
  | 13 => .cmp (.mem (.abs (wordOf b1 b2)))
  | 14 => .dec (.abs (wordOf b1 b2))
  | _ => .undCF

/-- Row Dx of the opcode map (R111). -/
def decodeRowD (lo : Nat) (b1 b2 : Byte) : Instr :=
  match lo with
  | 0 => .bne b1
  | 1 => .cmp (.mem (.izy b1))
  | 2 => .undD2
  | 3 => .undD3
  | 4 => .undD4
  | 5 => .cmp (.mem (.zpx b1))
  | 6 => .dec (.zpx b1)
  | 7 => .undD7
  | 8 => .cld
  | 9 => .cmp (.mem (.aby (wordOf b1 b2)))
  | 10 => .undDA
  | 11 => .undDB
  | 12 => .undDC
  | 13 => .cmp (.mem (.abx (wordOf b1 b2)))
  | 14 => .dec (.abx (wordOf b1 b2))
  | _ => .undDF

/-- Row Ex of the opcode map (R111). -/
def decodeRowE (lo : Nat) (b1 b2 : Byte) : Instr :=
  match lo with
  | 0 => .cpx (.imm b1)
  | 1 => .sbc (.mem (.izx b1))
  | 2 => .undE2
  | 3 => .undE3
  | 4 => .cpx (.mem (.zp0 b1))
  | 5 => .sbc (.mem (.zp0 b1))
  | 6 => .inc (.zp0 b1)
  | 7 => .undE7
  | 8 => .inx
  | 9 => .sbc (.imm b1)
  | 10 => .nop
  | 11 => .undEB
  | 12 => .cpx (.mem (.abs (wordOf b1 b2)))
  | 13 => .sbc (.mem (.abs (wordOf b1 b2)))
  | 14 => .inc (.abs (wordOf b1 b2))
  | _ => .undEF

/-- Row Fx of the opcode map (R111). -/
def decodeRowF (lo : Nat) (b1 b2 : Byte) : Instr :=
  match lo with
  | 0 => .beq b1
  | 1 => .sbc (.mem (.izy b1))
  | 2 => .undF2
  | 3 => .undF3
  | 4 => .undF4
  | 5 => .sbc (.mem (.zpx b1))
  | 6 => .inc (.zpx b1)
  | 7 => .undF7
  | 8 => .sed
  | 9 => .sbc (.mem (.aby (wordOf b1 b2)))
  | 10 => .undFA
  | 11 => .undFB
  | 12 => .undFC
  | 13 => .sbc (.mem (.abx (wordOf b1 b2)))
  | 14 => .inc (.abx (wordOf b1 b2))
  | _ => .undFF

/-- The opcode map (R111): the instruction whose bytes are `op b1 b2`; a shorter instruction does not use `b1` or
`b2`. Every value of `op` is an instruction (R130). -/
def instrOf (op b1 b2 : Byte) : Instr :=
  let lo := op.toNat % 16
  match op.toNat / 16 with
  | 0 => decodeRow0 lo b1 b2
  | 1 => decodeRow1 lo b1 b2
  | 2 => decodeRow2 lo b1 b2
  | 3 => decodeRow3 lo b1 b2
  | 4 => decodeRow4 lo b1 b2
  | 5 => decodeRow5 lo b1 b2
  | 6 => decodeRow6 lo b1 b2
  | 7 => decodeRow7 lo b1 b2
  | 8 => decodeRow8 lo b1 b2
  | 9 => decodeRow9 lo b1 b2
  | 10 => decodeRowA lo b1 b2
  | 11 => decodeRowB lo b1 b2
  | 12 => decodeRowC lo b1 b2
  | 13 => decodeRowD lo b1 b2
  | 14 => decodeRowE lo b1 b2
  | _ => decodeRowF lo b1 b2

/-- Length in bytes of a memory operand's instruction (R112). -/
def MemOperand.length : MemOperand → Nat
  | .zp0 _ | .zpx _ | .zpy _ | .izx _ | .izy _ => 2
  | .abs _ | .abx _ | .aby _ => 3

/-- Length in bytes of a reading instruction (R112). -/
def ReadOperand.length : ReadOperand → Nat
  | .imm _ => 2
  | .mem m => m.length

/-- Length in bytes of a shift or rotate (R112). -/
def ShiftOperand.length : ShiftOperand → Nat
  | .acc => 1
  | .mem m => m.length

/-- The length of an instruction in bytes, a function of its mode alone (R112). -/
def Instr.length : Instr → Nat
  | .lda m | .ldx m | .ldy m | .adc m | .sbc m | .and m | .ora m | .eor m | .cmp m | .cpx m | .cpy m => m.length
  | .sta m | .stx m | .sty m | .bit m | .inc m | .dec m => m.length
  | .asl m | .lsr m | .rol m | .ror m => m.length
  | .jmp _ | .jsr _ => 3
  | .bcc _ | .bcs _ | .beq _ | .bne _ | .bmi _ | .bpl _ | .bvc _ | .bvs _ => 2
  | .brk | .und02 | .und03 | .und04 | .und07 | .php | .und0B | .und0C | .und0F | .und12 | .und13 | .und14
  | .und17 | .clc | .und1A | .und1B | .und1C | .und1F | .und22 | .und23 | .und27 | .plp | .und2B | .und2F
  | .und32 | .und33 | .und34 | .und37 | .sec | .und3A | .und3B | .und3C | .und3F | .rti | .und42 | .und43
  | .und44 | .und47 | .pha | .und4B | .und4F | .und52 | .und53 | .und54 | .und57 | .cli | .und5A | .und5B
  | .und5C | .und5F | .rts | .und62 | .und63 | .und64 | .und67 | .pla | .und6B | .und6F | .und72 | .und73
  | .und74 | .und77 | .sei | .und7A | .und7B | .und7C | .und7F | .und80 | .und82 | .und83 | .und87 | .dey
  | .und89 | .txa | .und8B | .und8F | .und92 | .und93 | .und97 | .tya | .txs | .und9B | .und9C | .und9E
  | .und9F | .undA3 | .undA7 | .tay | .tax | .undAB | .undAF | .undB2 | .undB3 | .undB7 | .clv | .tsx | .undBB
  | .undBF | .undC2 | .undC3 | .undC7 | .iny | .dex | .undCB | .undCF | .undD2 | .undD3 | .undD4 | .undD7
  | .cld | .undDA | .undDB | .undDC | .undDF | .undE2 | .undE3 | .undE7 | .inx | .nop | .undEB | .undEF
  | .undF2 | .undF3 | .undF4 | .undF7 | .sed | .undFA | .undFB | .undFC | .undFF => 1

/-- The length of the instruction that an opcode byte begins (R112, R113: the opcode alone tells it). -/
def opcodeLength (op : Byte) : Nat := (instrOf op 0#8 0#8).length

/-- Why bytes are not an instruction: there is no reserved encoding (R130), so only missing bytes are refused. -/
inductive DecodeError where
  /-- No byte at all. -/
  | noOpcode
  /-- The operand bytes of this opcode are missing. -/
  | truncated (op : Byte)
deriving DecidableEq, Repr

/-- The decoder: the instruction at the head of a list of bytes and the bytes after it. -/
def decode : List Byte → Except DecodeError (Instr × List Byte)
  | [] => .error .noOpcode
  | op :: rest =>
    match opcodeLength op, rest with
    | 1, rest => .ok (instrOf op 0#8 0#8, rest)
    | 2, b1 :: rest => .ok (instrOf op b1 0#8, rest)
    | 3, b1 :: b2 :: rest => .ok (instrOf op b1 b2, rest)
    | _, _ => .error (.truncated op)

/-- The opcode of a memory form, given the mnemonic's opcode for each memory mode it has (`none` where it has not). -/
structure MemOpcodes where
  zp0 : Option Byte := none
  zpx : Option Byte := none
  zpy : Option Byte := none
  abs : Option Byte := none
  abx : Option Byte := none
  aby : Option Byte := none
  izx : Option Byte := none
  izy : Option Byte := none

/-- The opcode of this form in a mnemonic's row of opcodes. -/
def MemOperand.opcodeIn (t : MemOpcodes) : MemOperand → Option Byte
  | .zp0 _ => t.zp0
  | .zpx _ => t.zpx
  | .zpy _ => t.zpy
  | .abs _ => t.abs
  | .abx _ => t.abx
  | .aby _ => t.aby
  | .izx _ => t.izx
  | .izy _ => t.izy

/-- The opcode of a reading form: the immediate opcode or a memory opcode. -/
def ReadOperand.opcodeIn (immediate : Byte) (t : MemOpcodes) : ReadOperand → Option Byte
  | .imm _ => some immediate
  | .mem m => m.opcodeIn t

/-- The opcode of a shift form: the accumulator opcode or a memory opcode. -/
def ShiftOperand.opcodeIn (accumulator : Byte) (t : MemOpcodes) : ShiftOperand → Option Byte
  | .acc => some accumulator
  | .mem m => m.opcodeIn t

/-- The memory opcodes of `LDA` (R150). -/
def opcodesLDA : MemOpcodes :=
  { zp0 := some 0xA5#8, zpx := some 0xB5#8, abs := some 0xAD#8, abx := some 0xBD#8, aby := some 0xB9#8, izx := some 0xA1#8, izy := some 0xB1#8 }

/-- The memory opcodes of `LDX` (R151). -/
def opcodesLDX : MemOpcodes :=
  { zp0 := some 0xA6#8, zpy := some 0xB6#8, abs := some 0xAE#8, aby := some 0xBE#8 }

/-- The memory opcodes of `LDY` (R152). -/
def opcodesLDY : MemOpcodes :=
  { zp0 := some 0xA4#8, zpx := some 0xB4#8, abs := some 0xAC#8, abx := some 0xBC#8 }

/-- The memory opcodes of `STA` (R153). -/
def opcodesSTA : MemOpcodes :=
  { zp0 := some 0x85#8, zpx := some 0x95#8, abs := some 0x8D#8, abx := some 0x9D#8, aby := some 0x99#8, izx := some 0x81#8, izy := some 0x91#8 }

/-- The memory opcodes of `STX` (R154). -/
def opcodesSTX : MemOpcodes :=
  { zp0 := some 0x86#8, zpy := some 0x96#8, abs := some 0x8E#8 }

/-- The memory opcodes of `STY` (R155). -/
def opcodesSTY : MemOpcodes :=
  { zp0 := some 0x84#8, zpx := some 0x94#8, abs := some 0x8C#8 }

/-- The memory opcodes of `ADC` (R170). -/
def opcodesADC : MemOpcodes :=
  { zp0 := some 0x65#8, zpx := some 0x75#8, abs := some 0x6D#8, abx := some 0x7D#8, aby := some 0x79#8, izx := some 0x61#8, izy := some 0x71#8 }

/-- The memory opcodes of `SBC` (R171). -/
def opcodesSBC : MemOpcodes :=
  { zp0 := some 0xE5#8, zpx := some 0xF5#8, abs := some 0xED#8, abx := some 0xFD#8, aby := some 0xF9#8, izx := some 0xE1#8, izy := some 0xF1#8 }

/-- The memory opcodes of `AND` (R172). -/
def opcodesAND : MemOpcodes :=
  { zp0 := some 0x25#8, zpx := some 0x35#8, abs := some 0x2D#8, abx := some 0x3D#8, aby := some 0x39#8, izx := some 0x21#8, izy := some 0x31#8 }

/-- The memory opcodes of `ORA` (R173). -/
def opcodesORA : MemOpcodes :=
  { zp0 := some 0x05#8, zpx := some 0x15#8, abs := some 0x0D#8, abx := some 0x1D#8, aby := some 0x19#8, izx := some 0x01#8, izy := some 0x11#8 }

/-- The memory opcodes of `EOR` (R174). -/
def opcodesEOR : MemOpcodes :=
  { zp0 := some 0x45#8, zpx := some 0x55#8, abs := some 0x4D#8, abx := some 0x5D#8, aby := some 0x59#8, izx := some 0x41#8, izy := some 0x51#8 }

/-- The memory opcodes of `BIT` (R175). -/
def opcodesBIT : MemOpcodes :=
  { zp0 := some 0x24#8, abs := some 0x2C#8 }

/-- The memory opcodes of `CMP` (R176). -/
def opcodesCMP : MemOpcodes :=
  { zp0 := some 0xC5#8, zpx := some 0xD5#8, abs := some 0xCD#8, abx := some 0xDD#8, aby := some 0xD9#8, izx := some 0xC1#8, izy := some 0xD1#8 }

/-- The memory opcodes of `CPX` (R177). -/
def opcodesCPX : MemOpcodes :=
  { zp0 := some 0xE4#8, abs := some 0xEC#8 }

/-- The memory opcodes of `CPY` (R178). -/
def opcodesCPY : MemOpcodes :=
  { zp0 := some 0xC4#8, abs := some 0xCC#8 }

/-- The memory opcodes of `ASL` (R190). -/
def opcodesASL : MemOpcodes :=
  { zp0 := some 0x06#8, zpx := some 0x16#8, abs := some 0x0E#8, abx := some 0x1E#8 }

/-- The memory opcodes of `LSR` (R191). -/
def opcodesLSR : MemOpcodes :=
  { zp0 := some 0x46#8, zpx := some 0x56#8, abs := some 0x4E#8, abx := some 0x5E#8 }

/-- The memory opcodes of `ROL` (R192). -/
def opcodesROL : MemOpcodes :=
  { zp0 := some 0x26#8, zpx := some 0x36#8, abs := some 0x2E#8, abx := some 0x3E#8 }

/-- The memory opcodes of `ROR` (R193). -/
def opcodesROR : MemOpcodes :=
  { zp0 := some 0x66#8, zpx := some 0x76#8, abs := some 0x6E#8, abx := some 0x7E#8 }

/-- The memory opcodes of `INC` (R194). -/
def opcodesINC : MemOpcodes :=
  { zp0 := some 0xE6#8, zpx := some 0xF6#8, abs := some 0xEE#8, abx := some 0xFE#8 }

/-- The memory opcodes of `DEC` (R195). -/
def opcodesDEC : MemOpcodes :=
  { zp0 := some 0xC6#8, zpx := some 0xD6#8, abs := some 0xCE#8, abx := some 0xDE#8 }

/-- The opcode of an instruction, from the "Encodings" tables of 40 to 45; `none` for a form the mnemonic does not
have. -/
def Instr.opcode? : Instr → Option Byte
  | .lda m => m.opcodeIn 0xA9#8 opcodesLDA
  | .ldx m => m.opcodeIn 0xA2#8 opcodesLDX
  | .ldy m => m.opcodeIn 0xA0#8 opcodesLDY
  | .sta m => m.opcodeIn opcodesSTA
  | .stx m => m.opcodeIn opcodesSTX
  | .sty m => m.opcodeIn opcodesSTY
  | .tax => some 0xAA#8
  | .tay => some 0xA8#8
  | .txa => some 0x8A#8
  | .tya => some 0x98#8
  | .tsx => some 0xBA#8
  | .txs => some 0x9A#8
  | .adc m => m.opcodeIn 0x69#8 opcodesADC
  | .sbc m => m.opcodeIn 0xE9#8 opcodesSBC
  | .and m => m.opcodeIn 0x29#8 opcodesAND
  | .ora m => m.opcodeIn 0x09#8 opcodesORA
  | .eor m => m.opcodeIn 0x49#8 opcodesEOR
  | .bit m => m.opcodeIn opcodesBIT
  | .cmp m => m.opcodeIn 0xC9#8 opcodesCMP
  | .cpx m => m.opcodeIn 0xE0#8 opcodesCPX
  | .cpy m => m.opcodeIn 0xC0#8 opcodesCPY
  | .asl m => m.opcodeIn 0x0A#8 opcodesASL
  | .lsr m => m.opcodeIn 0x4A#8 opcodesLSR
  | .rol m => m.opcodeIn 0x2A#8 opcodesROL
  | .ror m => m.opcodeIn 0x6A#8 opcodesROR
  | .inc m => m.opcodeIn opcodesINC
  | .dec m => m.opcodeIn opcodesDEC
  | .inx => some 0xE8#8
  | .iny => some 0xC8#8
  | .dex => some 0xCA#8
  | .dey => some 0x88#8
  | .jmp (.abs _) => some 0x4C#8
  | .jmp (.ind _) => some 0x6C#8
  | .jsr _ => some 0x20#8
  | .rts => some 0x60#8
  | .bcc _ => some 0x90#8
  | .bcs _ => some 0xB0#8
  | .beq _ => some 0xF0#8
  | .bne _ => some 0xD0#8
  | .bmi _ => some 0x30#8
  | .bpl _ => some 0x10#8
  | .bvc _ => some 0x50#8
  | .bvs _ => some 0x70#8
  | .pha => some 0x48#8
  | .pla => some 0x68#8
  | .php => some 0x08#8
  | .plp => some 0x28#8
  | .clc => some 0x18#8
  | .sec => some 0x38#8
  | .cli => some 0x58#8
  | .sei => some 0x78#8
  | .cld => some 0xD8#8
  | .sed => some 0xF8#8
  | .clv => some 0xB8#8
  | .nop => some 0xEA#8
  | .brk => some 0x00#8
  | .rti => some 0x40#8
  | .und02 => some 0x02#8
  | .und03 => some 0x03#8
  | .und04 => some 0x04#8
  | .und07 => some 0x07#8
  | .und0B => some 0x0B#8
  | .und0C => some 0x0C#8
  | .und0F => some 0x0F#8
  | .und12 => some 0x12#8
  | .und13 => some 0x13#8
  | .und14 => some 0x14#8
  | .und17 => some 0x17#8
  | .und1A => some 0x1A#8
  | .und1B => some 0x1B#8
  | .und1C => some 0x1C#8
  | .und1F => some 0x1F#8
  | .und22 => some 0x22#8
  | .und23 => some 0x23#8
  | .und27 => some 0x27#8
  | .und2B => some 0x2B#8
  | .und2F => some 0x2F#8
  | .und32 => some 0x32#8
  | .und33 => some 0x33#8
  | .und34 => some 0x34#8
  | .und37 => some 0x37#8
  | .und3A => some 0x3A#8
  | .und3B => some 0x3B#8
  | .und3C => some 0x3C#8
  | .und3F => some 0x3F#8
  | .und42 => some 0x42#8
  | .und43 => some 0x43#8
  | .und44 => some 0x44#8
  | .und47 => some 0x47#8
  | .und4B => some 0x4B#8
  | .und4F => some 0x4F#8
  | .und52 => some 0x52#8
  | .und53 => some 0x53#8
  | .und54 => some 0x54#8
  | .und57 => some 0x57#8
  | .und5A => some 0x5A#8
  | .und5B => some 0x5B#8
  | .und5C => some 0x5C#8
  | .und5F => some 0x5F#8
  | .und62 => some 0x62#8
  | .und63 => some 0x63#8
  | .und64 => some 0x64#8
  | .und67 => some 0x67#8
  | .und6B => some 0x6B#8
  | .und6F => some 0x6F#8
  | .und72 => some 0x72#8
  | .und73 => some 0x73#8
  | .und74 => some 0x74#8
  | .und77 => some 0x77#8
  | .und7A => some 0x7A#8
  | .und7B => some 0x7B#8
  | .und7C => some 0x7C#8
  | .und7F => some 0x7F#8
  | .und80 => some 0x80#8
  | .und82 => some 0x82#8
  | .und83 => some 0x83#8
  | .und87 => some 0x87#8
  | .und89 => some 0x89#8
  | .und8B => some 0x8B#8
  | .und8F => some 0x8F#8
  | .und92 => some 0x92#8
  | .und93 => some 0x93#8
  | .und97 => some 0x97#8
  | .und9B => some 0x9B#8
  | .und9C => some 0x9C#8
  | .und9E => some 0x9E#8
  | .und9F => some 0x9F#8
  | .undA3 => some 0xA3#8
  | .undA7 => some 0xA7#8
  | .undAB => some 0xAB#8
  | .undAF => some 0xAF#8
  | .undB2 => some 0xB2#8
  | .undB3 => some 0xB3#8
  | .undB7 => some 0xB7#8
  | .undBB => some 0xBB#8
  | .undBF => some 0xBF#8
  | .undC2 => some 0xC2#8
  | .undC3 => some 0xC3#8
  | .undC7 => some 0xC7#8
  | .undCB => some 0xCB#8
  | .undCF => some 0xCF#8
  | .undD2 => some 0xD2#8
  | .undD3 => some 0xD3#8
  | .undD4 => some 0xD4#8
  | .undD7 => some 0xD7#8
  | .undDA => some 0xDA#8
  | .undDB => some 0xDB#8
  | .undDC => some 0xDC#8
  | .undDF => some 0xDF#8
  | .undE2 => some 0xE2#8
  | .undE3 => some 0xE3#8
  | .undE7 => some 0xE7#8
  | .undEB => some 0xEB#8
  | .undEF => some 0xEF#8
  | .undF2 => some 0xF2#8
  | .undF3 => some 0xF3#8
  | .undF4 => some 0xF4#8
  | .undF7 => some 0xF7#8
  | .undFA => some 0xFA#8
  | .undFB => some 0xFB#8
  | .undFC => some 0xFC#8
  | .undFF => some 0xFF#8

/-- The operand bytes of a word: low byte first (R114). -/
def wordBytes (w : Word) : List Byte := [loByte w, hiByte w]

/-- The operand bytes of a memory form (R113, R114). -/
def MemOperand.bytes : MemOperand → List Byte
  | .zp0 b | .zpx b | .zpy b | .izx b | .izy b => [b]
  | .abs w | .abx w | .aby w => wordBytes w

/-- The operand bytes of a reading form. -/
def ReadOperand.bytes : ReadOperand → List Byte
  | .imm v => [v]
  | .mem m => m.bytes

/-- The operand bytes of a shift form. -/
def ShiftOperand.bytes : ShiftOperand → List Byte
  | .acc => []
  | .mem m => m.bytes

/-- The operand bytes of an instruction. -/
def Instr.operandBytes : Instr → List Byte
  | .lda m | .ldx m | .ldy m | .adc m | .sbc m | .and m | .ora m | .eor m | .cmp m | .cpx m | .cpy m => m.bytes
  | .sta m | .stx m | .sty m | .bit m | .inc m | .dec m => m.bytes
  | .asl m | .lsr m | .rol m | .ror m => m.bytes
  | .jmp (.abs w) | .jmp (.ind w) | .jsr w => wordBytes w
  | .bcc off | .bcs off | .beq off | .bne off | .bmi off | .bpl off | .bvc off | .bvs off => [off]
  | .brk | .und02 | .und03 | .und04 | .und07 | .php | .und0B | .und0C | .und0F | .und12 | .und13 | .und14
  | .und17 | .clc | .und1A | .und1B | .und1C | .und1F | .und22 | .und23 | .und27 | .plp | .und2B | .und2F
  | .und32 | .und33 | .und34 | .und37 | .sec | .und3A | .und3B | .und3C | .und3F | .rti | .und42 | .und43
  | .und44 | .und47 | .pha | .und4B | .und4F | .und52 | .und53 | .und54 | .und57 | .cli | .und5A | .und5B
  | .und5C | .und5F | .rts | .und62 | .und63 | .und64 | .und67 | .pla | .und6B | .und6F | .und72 | .und73
  | .und74 | .und77 | .sei | .und7A | .und7B | .und7C | .und7F | .und80 | .und82 | .und83 | .und87 | .dey
  | .und89 | .txa | .und8B | .und8F | .und92 | .und93 | .und97 | .tya | .txs | .und9B | .und9C | .und9E
  | .und9F | .undA3 | .undA7 | .tay | .tax | .undAB | .undAF | .undB2 | .undB3 | .undB7 | .clv | .tsx | .undBB
  | .undBF | .undC2 | .undC3 | .undC7 | .iny | .dex | .undCB | .undCF | .undD2 | .undD3 | .undD4 | .undD7
  | .cld | .undDA | .undDB | .undDC | .undDF | .undE2 | .undE3 | .undE7 | .inx | .nop | .undEB | .undEF
  | .undF2 | .undF3 | .undF4 | .undF7 | .sed | .undFA | .undFB | .undFC | .undFF => []

/-- The bytes of a well-formed instruction, lowest address first; the empty list for a form that has no encoding. -/
def encode (i : Instr) : List Byte :=
  match i.opcode? with
  | some op => op :: i.operandBytes
  | none => []

/-- The bytes of an instruction whose bits are `w`, numbered from bit 0 of the first byte, the bits at and above `nbits`
being 0, up to the longest instruction. -/
def tableBytes (nbits w : Nat) : List Byte :=
  let n := w % 2 ^ nbits
  [BitVec.ofNat 8 n, BitVec.ofNat 8 (n / 256), BitVec.ofNat 8 (n / 65536)]

/-- The instruction the decoder reads from the bytes of a table word. -/
def decodeTableWord (nbits w : Nat) : Option Instr :=
  match decode (tableBytes nbits w) with
  | .ok (i, _) => some i
  | .error _ => none

end Sys2Proof
end

