-- ==== Sys2Proof/Machine/State.lean ====
section
/-! DEFINITION. The state of the machine (10_state.md), as plain data: the product of the CPU, the Bus, the PPU, the APU
and the cartridge (R340). Also the two ways a step could stop, and the state after reset. -/

namespace Sys2Proof.Machine

/-- A memory: (address, byte) pairs, addresses rising, no entry equal to what an unlisted address reads as. The
operations and the canonical form are in Machine/Memory.lean. -/
abbrev Memory := List Host.Cell

/-- The frame buffer (R53): (row, pixels of the row) pairs, each row a list of (column, 6-bit palette index) pairs, in
the same canonical form as a memory. -/
abbrev Frame := List (Nat × List (Nat × BitVec 6))

/-- The CPU registers and its two counters (R20 to R25, R31, R32). -/
structure Cpu where
  /-- The accumulator (R20). -/
  a : Byte
  /-- Index register X (R21). -/
  x : Byte
  /-- Index register Y (R22). -/
  y : Byte
  /-- The stack pointer (R24). -/
  sp : Byte
  /-- The program counter (R23). -/
  pc : Word
  /-- The status register, bit 7 to bit 0 = N V U B D I Z C (R25). -/
  p : Byte
  /-- The remaining-cycle counter `cycles` (R31). -/
  cycles : Nat
  /-- `clock_count` (R32). -/
  clockCount : Nat
deriving DecidableEq, Repr

/-- The OAM DMA engine (R44). -/
structure Dma where
  active : Bool
  dummy : Bool
  page : Byte
  addr : Byte
  data : Byte
deriving DecidableEq, Repr

/-- The Bus's own state (R40 to R42, R44, R45). -/
structure Bus where
  /-- The 2048 bytes of CPU RAM (R40). -/
  ram : Memory
  /-- `sys_clock` (R41). -/
  sysClock : Nat
  /-- The button latch `controller[0]` (R42). -/
  controller0 : Byte
  /-- The button latch `controller[1]` (R42). -/
  controller1 : Byte
  /-- `controller_shift[0]` (R42). -/
  shift0 : Byte
  /-- `controller_shift[1]` (R42). -/
  shift1 : Byte
  /-- The last bit 0 written to 0x4016 (R42). -/
  strobe : Bool
  /-- The OAM DMA engine (R44). -/
  dma : Dma
  /-- `sample_acc` (R45). -/
  sampleAcc : Nat
  /-- `audio_sample` (R45). -/
  audioSample : Rat
deriving DecidableEq, Repr

/-- The nametable mirroring mode (R59). -/
inductive Mirroring where
  | horizontal
  | vertical
  | singleLo
  | singleHi
  | fourScreen
deriving DecidableEq, Repr

/-- A cartridge (R59). The baseline mapper has no registers (R546). -/
structure Cartridge where
  /-- PRG ROM, 16384 × `prgBanks` bytes. -/
  prg : Memory
  /-- CHR ROM, 8192 × `chrBanks` bytes, or 8192 bytes of CHR RAM when `chrBanks = 0`. -/
  chr : Memory
  prgBanks : Nat
  chrBanks : Nat
  mapperId : Byte
  mirroring : Mirroring
  battery : Bool
  /-- The extra nametable RAM of a four-screen cartridge, 2048 bytes. -/
  ntExt : Memory
deriving DecidableEq, Repr

/-- An entry of the sprite evaluation buffer `sec_oam` (R52). -/
structure SpriteEntry where
  y : Byte
  id : Byte
  attr : Byte
  x : Byte
deriving DecidableEq, Repr

/-- A sprite slot: `spr_pat_lo[i]`, `spr_pat_hi[i]`, `spr_x[i]`, `spr_attr[i]` (R52). -/
structure SpriteSlot where
  patLo : Byte
  patHi : Byte
  x : Byte
  attr : Byte
deriving DecidableEq, Repr

/-- The PPU (R46 to R53). -/
structure Ppu where
  /-- The control register (R46, R381). -/
  ctrl : Byte
  /-- The mask register (R46, R382). -/
  mask : Byte
  /-- Bit 5 of `status` (R383). -/
  spriteOverflow : Bool
  /-- Bit 6 of `status` (R383). -/
  spriteZeroHit : Bool
  /-- Bit 7 of `status` (R383). -/
  verticalBlank : Bool
  /-- The OAM address (R46, R384). -/
  oamAddr : Byte
  /-- The current VRAM address (R47). -/
  v : Loopy
  /-- The temporary VRAM address (R47). -/
  t : Loopy
  /-- The fine X scroll (R47). -/
  fineX : BitVec 3
  /-- The write toggle (R47). -/
  w : Bool
  /-- The read buffer of the data port (R48). -/
  dataBuffer : Byte
  /-- The 2048 bytes of nametable RAM (R49). -/
  vram : Memory
  /-- The 32 bytes of palette RAM (R49). -/
  palette : Memory
  /-- The 256 bytes of object attribute memory (R49). -/
  oam : Memory
  /-- The scanline, −1 to 260 (R50). -/
  scanline : Int
  /-- The cycle within the scanline, 0 to 340 (R50). -/
  cycle : Nat
  /-- Set when the scanline wraps past 260 (R50). -/
  frameComplete : Bool
  /-- The interrupt request to the Bus (R50). -/
  nmiOut : Bool
  /-- Background latches (R51). -/
  nextTileId : Byte
  nextTileAttrib : BitVec 2
  nextTileLsb : Byte
  nextTileMsb : Byte
  /-- Background shift registers (R51). -/
  bgPatLo : BitVec 16
  bgPatHi : BitVec 16
  bgAttLo : BitVec 16
  bgAttHi : BitVec 16
  /-- The sprite evaluation buffer, 8 entries (R52). -/
  secOam : List SpriteEntry
  /-- `sprite_count`, 0 to 8 (R52). -/
  spriteCount : Nat
  /-- The 8 sprite slots (R52). -/
  slots : List SpriteSlot
  /-- Slot 0 of the buffer holds OAM sprite 0 (R52). -/
  spriteZeroPossible : Bool
  /-- The frame buffer, 240 rows of 256 elements (R53). -/
  frame : Frame
  /-- The MODEL's own field, not the spec's: the number of the next free value of `Config.freePatternByte` (log 10). -/
  freeCount : Nat
deriving DecidableEq, Repr

/-- An envelope unit: `env_start`, `env_div`, `env_decay` (R55, R57). -/
structure Envelope where
  start : Bool
  div : BitVec 4
  decay : BitVec 4
deriving DecidableEq, Repr

/-- A pulse channel (R55). -/
structure Pulse where
  duty : BitVec 2
  /-- Length-counter halt and envelope loop. -/
  halt : Bool
  constVol : Bool
  vol : BitVec 4
  swEnable : Bool
  swPeriod : BitVec 3
  swNegate : Bool
  swShift : BitVec 3
  swReload : Bool
  swDiv : BitVec 3
  timerPeriod : BitVec 11
  timer : BitVec 11
  seq : BitVec 3
  length : Byte
  enabled : Bool
  env : Envelope
deriving DecidableEq, Repr

/-- The triangle channel (R56). -/
structure Triangle where
  /-- Length-counter halt and linear-counter control. -/
  control : Bool
  linReloadVal : BitVec 7
  linCounter : BitVec 7
  linReload : Bool
  timerPeriod : BitVec 11
  timer : BitVec 11
  step : BitVec 5
  length : Byte
  enabled : Bool
deriving DecidableEq, Repr

/-- The noise channel (R57). -/
structure Noise where
  halt : Bool
  constVol : Bool
  vol : BitVec 4
  mode : Bool
  periodIndex : BitVec 4
  timer : BitVec 12
  lfsr : BitVec 15
  length : Byte
  enabled : Bool
  env : Envelope
deriving DecidableEq, Repr

/-- The APU (R54 to R57). -/
structure Apu where
  /-- `frame_counter`, CPU-rate ticks since the last sequencer reset (R54). -/
  frameCounter : Nat
  /-- `frame_mode`: false four-step, true five-step (R54). -/
  frameMode : Bool
  /-- Stored, no effect (R54, R472). -/
  irqInhibit : Bool
  /-- `apu_div`, 0 to 5 (R54). -/
  div : Nat
  pulse1 : Pulse
  pulse2 : Pulse
  triangle : Triangle
  noise : Noise
deriving DecidableEq, Repr

/-- The whole machine (R340). -/
structure State where
  cpu : Cpu
  bus : Bus
  ppu : Ppu
  apu : Apu
  /-- The inserted cartridge, if any (R43). -/
  cart : Option Cartridge
deriving DecidableEq, Repr

/-- A fault: the machine stops. No rule of the spec lets this machine stop (R300). -/
inductive Fault where
  /-- The "fatal invariant break" of an address outside the Bus decode (R87), which the spec calls unreachable: the
  decode is total over 16 bits, so nothing raises it. Safe. -/
  | busInvariantBreak
deriving DecidableEq, Repr

/-- A refusal: an instruction without a meaning. -/
inductive Refusal where
  /-- The instruction of this mnemonic has no meaning in the model yet. Raised by no arm of `exec` now. Safe. -/
  | notModelled (mnemonic : String)
deriving DecidableEq, Repr

/-- The power-on state of an envelope unit (R55, R57). -/
def Envelope.zero : Envelope := ⟨false, 0#4, 0#4⟩

/-- The reset and power-on state of a pulse channel (R55, R573). -/
def Pulse.zero : Pulse where
  duty := 0#2
  halt := false
  constVol := false
  vol := 0#4
  swEnable := false
  swPeriod := 0#3
  swNegate := false
  swShift := 0#3
  swReload := false
  swDiv := 0#3
  timerPeriod := 0#11
  timer := 0#11
  seq := 0#3
  length := 0#8
  enabled := false
  env := Envelope.zero

/-- The reset and power-on state of the triangle channel (R56, R573). -/
def Triangle.zero : Triangle where
  control := false
  linReloadVal := 0#7
  linCounter := 0#7
  linReload := false
  timerPeriod := 0#11
  timer := 0#11
  step := 0#5
  length := 0#8
  enabled := false

/-- The reset and power-on state of the noise channel: `lfsr = 1`, everything else 0 (R57, R573). -/
def Noise.initial : Noise where
  halt := false
  constVol := false
  vol := 0#4
  mode := false
  periodIndex := 0#4
  timer := 0#12
  lfsr := 1#15
  length := 0#8
  enabled := false
  env := Envelope.zero

/-- The reset and power-on state of the APU (R54 to R57, R573). -/
def Apu.initial : Apu where
  frameCounter := 0
  frameMode := false
  irqInhibit := false
  div := 0
  pulse1 := Pulse.zero
  pulse2 := Pulse.zero
  triangle := Triangle.zero
  noise := Noise.initial

/-- The reset and power-on state of the OAM DMA engine (R44). -/
def Dma.initial : Dma := ⟨false, true, 0#8, 0#8, 0#8⟩

/-- An entry of `sec_oam` at reset and before each evaluation: all bytes 0xFF (R52, R426). -/
def SpriteEntry.blank : SpriteEntry := ⟨0xFF#8, 0xFF#8, 0xFF#8, 0xFF#8⟩

/-- A sprite slot at reset (R52). -/
def SpriteSlot.zero : SpriteSlot := ⟨0#8, 0#8, 0#8, 0#8⟩

/-- The PPU after reset, over given memories and frame buffer, which reset does not change (R572, R576). -/
def Ppu.initial (vram palette oam : Memory) (frame : Frame) : Ppu where
  ctrl := 0#8
  mask := 0#8
  spriteOverflow := false
  spriteZeroHit := false
  verticalBlank := false
  oamAddr := 0#8
  v := 0#15
  t := 0#15
  fineX := 0#3
  w := false
  dataBuffer := 0#8
  vram := vram
  palette := palette
  oam := oam
  scanline := 0
  cycle := 0
  frameComplete := false
  nmiOut := false
  nextTileId := 0#8
  nextTileAttrib := 0#2
  nextTileLsb := 0#8
  nextTileMsb := 0#8
  bgPatLo := 0#16
  bgPatHi := 0#16
  bgAttLo := 0#16
  bgAttHi := 0#16
  secOam := List.replicate 8 SpriteEntry.blank
  spriteCount := 0
  slots := List.replicate 8 SpriteSlot.zero
  spriteZeroPossible := false
  frame := frame
  freeCount := 0

/-- The machine right after `Bus.reset()` (R570 to R576) from power-on: no cartridge is inserted (R43), so the reset
vector reads 0x0000 (R79, R580; log 3). `a`, `x`, `y` are the model's choice (log 1) and so are the contents of the
memories (log 2). -/
def State.reset : State where
  cpu := { a := 0#8, x := 0#8, y := 0#8, sp := 0xFD#8, pc := 0x0000#16, p := 0x24#8, cycles := 8, clockCount := 0 }
  bus :=
    { ram := [], sysClock := 0, controller0 := 0#8, controller1 := 0#8, shift0 := 0xFF#8, shift1 := 0xFF#8,
      strobe := false, dma := Dma.initial, sampleAcc := 0, audioSample := 0 }
  ppu := Ppu.initial [] [] [] []
  apu := Apu.initial
  cart := none

end Sys2Proof.Machine
end

