-- ==== Sys2Proof/Machine/ApuUnits.lean ====
section
/-! DEFINITION. The units of the APU's channels (63_apu.md, sections 3 to 5): tables, timers and sequencers, envelopes,
sweeps, length and linear counters, the noise register, and the channel outputs. -/

namespace Sys2Proof.Machine

/-- `DUTY[duty]` (R481): the output bits at positions 0 to 7. -/
def dutyRow (duty : BitVec 2) : List Bool :=
  match duty.toNat with
  | 0 => [false, true, false, false, false, false, false, false]
  | 1 => [false, true, true, false, false, false, false, false]
  | 2 => [false, true, true, true, true, false, false, false]
  | _ => [true, false, false, true, true, true, true, true]

/-- `DUTY[duty][seq]` (R481). -/
def dutyBit (duty : BitVec 2) (seq : BitVec 3) : Bool := (dutyRow duty).getD seq.toNat false

/-- `LENGTH_TABLE` (R487). -/
def lengthTable : List Nat :=
  [10, 254, 20, 2, 40, 4, 80, 6, 160, 8, 60, 10, 14, 12, 26, 14] ++
    [12, 16, 24, 18, 48, 20, 96, 22, 192, 24, 72, 26, 16, 28, 32, 30]

/-- The length loaded by the index in bits 7:3 of a register write (R479, R487). -/
def lengthLoad (data : Byte) : Byte := BitVec.ofNat 8 (lengthTable.getD (data.toNat / 8) 0)

/-- `TRIANGLE[step]` (R494): 15 down to 0, then 0 up to 15. -/
def triangleTable (step : BitVec 5) : Nat := if step.toNat < 16 then 15 - step.toNat else step.toNat - 16

/-- `NOISE_PERIOD` (R502), in CPU cycles. -/
def noisePeriodTable : List Nat :=
  [4, 8, 16, 32, 64, 96, 128, 160, 202, 254, 380, 508, 762, 1016, 2034, 4068]

/-- `NOISE_PERIOD[i]` (R502). -/
def noisePeriod (i : BitVec 4) : Nat := noisePeriodTable.getD i.toNat 4

/-- `envelope_clock` (R482), for a channel of volume `vol` and envelope loop flag `loop`. -/
def Envelope.clock (vol : BitVec 4) (loop : Bool) (e : Envelope) : Envelope :=
  if e.start then { start := false, decay := 15#4, div := vol }
  else if e.div = 0#4 then
    { e with div := vol, decay := if e.decay ≠ 0#4 then e.decay - 1#4 else if loop then 15#4 else e.decay }
  else { e with div := e.div - 1#4 }

/-- `volume(ch)` (R482), 0 to 15. -/
def volumeOf (constVol : Bool) (vol : BitVec 4) (e : Envelope) : Nat := if constVol then vol.toNat else e.decay.toNat

/-- `length_clock` (R486) on a length counter. -/
def lengthClock (halt : Bool) (length : Byte) : Byte :=
  if !halt && length != 0#8 then length - 1#8 else length

/-- `pulse_timer_tick` (R480). -/
def Pulse.timerTick (p : Pulse) : Pulse :=
  if p.timer = 0#11 then { p with timer := p.timerPeriod, seq := p.seq + 1#3 } else { p with timer := p.timer - 1#11 }

/-- `sweep_target` (R483): `onesComplement` holds for pulse 1. A negative target is 0, which is what subtraction of
naturals gives. -/
def Pulse.sweepTarget (onesComplement : Bool) (p : Pulse) : Nat :=
  let change := p.timerPeriod.toNat >>> p.swShift.toNat
  if !p.swNegate then p.timerPeriod.toNat + change
  else if onesComplement then p.timerPeriod.toNat - change - 1
  else p.timerPeriod.toNat - change

/-- `sweep_mute` (R483). -/
def Pulse.sweepMute (onesComplement : Bool) (p : Pulse) : Bool :=
  decide (p.timerPeriod.toNat < 8) || decide (0x7FF < p.sweepTarget onesComplement)

/-- `sweep_clock` (R484). -/
def Pulse.sweepClock (onesComplement : Bool) (p : Pulse) : Pulse :=
  { p with
    timerPeriod :=
      if p.swDiv = 0#3 ∧ p.swEnable = true ∧ p.swShift ≠ 0#3 ∧ p.sweepMute onesComplement = false then
        BitVec.ofNat 11 (p.sweepTarget onesComplement)
      else p.timerPeriod
    swDiv := if p.swDiv = 0#3 ∨ p.swReload = true then p.swPeriod else p.swDiv - 1#3
    swReload := if p.swDiv = 0#3 ∨ p.swReload = true then false else p.swReload }

/-- The envelope clock of a pulse channel (R482). -/
def Pulse.envelopeClock (p : Pulse) : Pulse := { p with env := p.env.clock p.vol p.halt }

/-- The length clock of a pulse channel (R486). -/
def Pulse.lengthClock (p : Pulse) : Pulse := { p with length := Machine.lengthClock p.halt p.length }

/-- `pulse_out` (R488), 0 to 15. -/
def Pulse.out (onesComplement : Bool) (p : Pulse) : Nat :=
  if p.length = 0#8 ∨ dutyBit p.duty p.seq = false ∨ p.sweepMute onesComplement = true then 0
  else volumeOf p.constVol p.vol p.env

/-- `triangle_timer_tick` (R492). -/
def Triangle.timerTick (t : Triangle) : Triangle :=
  if t.timer = 0#11 then
    { t with
      timer := t.timerPeriod
      step := if t.length ≠ 0#8 ∧ t.linCounter ≠ 0#7 then t.step + 1#5 else t.step }
  else { t with timer := t.timer - 1#11 }

/-- `linear_counter_clock` (R493). -/
def Triangle.linearClock (t : Triangle) : Triangle :=
  { t with
    linCounter :=
      if t.linReload then t.linReloadVal else if t.linCounter ≠ 0#7 then t.linCounter - 1#7 else t.linCounter
    linReload := if t.control then t.linReload else false }

/-- The length clock of the triangle, halted by `control` (R486). -/
def Triangle.lengthClock (t : Triangle) : Triangle := { t with length := Machine.lengthClock t.control t.length }

/-- `triangle_out` (R494), 0 to 15. -/
def Triangle.out (t : Triangle) : Nat := triangleTable t.step

/-- One shift of the noise register (R502): the feedback is bit 0 xor bit 6 or bit 1. -/
def lfsrShift (mode : Bool) (l : BitVec 15) : BitVec 15 :=
  let fb := l.getLsbD 0 ^^ (if mode then l.getLsbD 6 else l.getLsbD 1)
  (l >>> 1) ||| (if fb then 0x4000#15 else 0#15)

/-- `noise_timer_tick` (R502). -/
def Noise.timerTick (n : Noise) : Noise :=
  if n.timer = 0#12 then
    { n with timer := BitVec.ofNat 12 (noisePeriod n.periodIndex / 2 - 1), lfsr := lfsrShift n.mode n.lfsr }
  else { n with timer := n.timer - 1#12 }

/-- The envelope clock of the noise channel (R482). -/
def Noise.envelopeClock (n : Noise) : Noise := { n with env := n.env.clock n.vol n.halt }

/-- The length clock of the noise channel (R486). -/
def Noise.lengthClock (n : Noise) : Noise := { n with length := Machine.lengthClock n.halt n.length }

/-- `noise_out` (R504), 0 to 15. -/
def Noise.out (n : Noise) : Nat :=
  if n.lfsr.getLsbD 0 = true ∨ n.length = 0#8 then 0 else volumeOf n.constVol n.vol n.env

end Sys2Proof.Machine
end

