-- ==== Sys2Proof/Machine/ApuClock.lean ====
section
/-! DEFINITION. The APU's clock (R463), its frame sequencer (R465 to R470), its registers (R461, R471, R476 to R479, R491,
R501, R510 to R512) and its mixer (R520). -/

namespace Sys2Proof.Machine

/-- `quarter_frame()` (R470). -/
def Apu.quarterFrame (a : Apu) : Apu :=
  { a with
    pulse1 := a.pulse1.envelopeClock
    pulse2 := a.pulse2.envelopeClock
    noise := a.noise.envelopeClock
    triangle := a.triangle.linearClock }

/-- `half_frame()` (R470): the length counters, then the sweeps. -/
def Apu.halfFrame (a : Apu) : Apu :=
  { a with
    pulse1 := a.pulse1.lengthClock.sweepClock true
    pulse2 := a.pulse2.lengthClock.sweepClock false
    triangle := a.triangle.lengthClock
    noise := a.noise.lengthClock }

/-- The counts at which only the quarter-frame units are clocked (R466). -/
def quarterCount (n : Nat) : Bool := n == 7457 || n == 22371

/-- The counts at which both kinds of unit are clocked (R466). -/
def halfCount (mode : Bool) (n : Nat) : Bool := n == 14913 || n == (if mode then 37281 else 29829)

/-- The count at which the sequence starts again (R466). -/
def wrapCount (mode : Bool) : Nat := if mode then 37282 else 29830

/-- `frame_sequencer_tick()` (R466). -/
def Apu.frameSequencerTick (a : Apu) : Apu :=
  let n := a.frameCounter + 1
  let a :=
    if quarterCount n then a.quarterFrame
    else if halfCount a.frameMode n then a.quarterFrame.halfFrame
    else a
  { a with frameCounter := if n = wrapCount a.frameMode then 0 else n }

/-- The ticks of a CPU-rate tick (R463). -/
def Apu.cpuRateTick (a : Apu) : Apu := { a with triangle := a.triangle.timerTick }.frameSequencerTick

/-- The ticks of an APU-rate tick (R463). -/
def Apu.apuRateTick (a : Apu) : Apu :=
  { a with pulse1 := a.pulse1.timerTick, pulse2 := a.pulse2.timerTick, noise := a.noise.timerTick }

/-- `APU.clock()` (R463). -/
def Apu.clock (a : Apu) : Apu :=
  let d := a.div
  let a := if d % 3 = 0 then a.cpuRateTick else a
  let a := if d = 0 then a.apuRateTick else a
  { a with div := (d + 1) % 6 }

/-- Write 0x4000 / 0x4004 (R476). -/
def Pulse.writeControl (data : Byte) (p : Pulse) : Pulse :=
  { p with
    duty := data.extractLsb' 6 2, halt := data.getLsbD 5, constVol := data.getLsbD 4, vol := data.extractLsb' 0 4 }

/-- Write 0x4001 / 0x4005 (R477). -/
def Pulse.writeSweep (data : Byte) (p : Pulse) : Pulse :=
  { p with
    swEnable := data.getLsbD 7
    swPeriod := data.extractLsb' 4 3
    swNegate := data.getLsbD 3
    swShift := data.extractLsb' 0 3
    swReload := true }

/-- Bits 7:0 of a timer period (R478, R491). -/
def setPeriodLow (data : Byte) (period : BitVec 11) : BitVec 11 := (period &&& 0x700#11) ||| data.setWidth 11

/-- Bits 10:8 of a timer period from bits 2:0 of the data (R479, R491). -/
def setPeriodHigh (data : Byte) (period : BitVec 11) : BitVec 11 :=
  (period &&& 0x0FF#11) ||| ((data &&& 7#8).setWidth 11 <<< 8)

/-- Write 0x4002 / 0x4006 (R478). -/
def Pulse.writeTimerLow (data : Byte) (p : Pulse) : Pulse := { p with timerPeriod := setPeriodLow data p.timerPeriod }

/-- Write 0x4003 / 0x4007 (R479). -/
def Pulse.writeTimerHigh (data : Byte) (p : Pulse) : Pulse :=
  { p with
    timerPeriod := setPeriodHigh data p.timerPeriod
    length := if p.enabled then lengthLoad data else p.length
    seq := 0#3
    env := { p.env with start := true } }

/-- Write 0x4008 (R491). -/
def Triangle.writeControl (data : Byte) (t : Triangle) : Triangle :=
  { t with control := data.getLsbD 7, linReloadVal := data.extractLsb' 0 7 }

/-- Write 0x400A (R491). -/
def Triangle.writeTimerLow (data : Byte) (t : Triangle) : Triangle :=
  { t with timerPeriod := setPeriodLow data t.timerPeriod }

/-- Write 0x400B (R491). -/
def Triangle.writeTimerHigh (data : Byte) (t : Triangle) : Triangle :=
  { t with
    timerPeriod := setPeriodHigh data t.timerPeriod
    length := if t.enabled then lengthLoad data else t.length
    linReload := true }

/-- Write 0x400C (R501). -/
def Noise.writeControl (data : Byte) (n : Noise) : Noise :=
  { n with halt := data.getLsbD 5, constVol := data.getLsbD 4, vol := data.extractLsb' 0 4 }

/-- Write 0x400E (R501). -/
def Noise.writePeriod (data : Byte) (n : Noise) : Noise :=
  { n with mode := data.getLsbD 7, periodIndex := data.extractLsb' 0 4 }

/-- Write 0x400F (R501). -/
def Noise.writeLength (data : Byte) (n : Noise) : Noise :=
  { n with length := if n.enabled then lengthLoad data else n.length, env := { n.env with start := true } }

/-- A length counter after a write of its channel's enable bit (R511). -/
def enableLength (enable : Bool) (length : Byte) : Byte := if enable then length else 0#8

/-- Write 0x4015 (R511). -/
def Apu.writeEnables (data : Byte) (a : Apu) : Apu :=
  { a with
    pulse1 := { a.pulse1 with enabled := data.getLsbD 0, length := enableLength (data.getLsbD 0) a.pulse1.length }
    pulse2 := { a.pulse2 with enabled := data.getLsbD 1, length := enableLength (data.getLsbD 1) a.pulse2.length }
    triangle :=
      { a.triangle with enabled := data.getLsbD 2, length := enableLength (data.getLsbD 2) a.triangle.length }
    noise := { a.noise with enabled := data.getLsbD 3, length := enableLength (data.getLsbD 3) a.noise.length } }

/-- Write 0x4017 (R471): the sequencer restarts at once; five-step mode clocks both kinds of unit. -/
def Apu.writeFrameCounter (data : Byte) (a : Apu) : Apu :=
  let a := { a with frameMode := data.getLsbD 7, irqInhibit := data.getLsbD 6, frameCounter := 0 }
  if a.frameMode then a.quarterFrame.halfFrame else a

/-- `APU.cpuWrite` (R461, R510) for register `r`, the address minus 0x4000: 0x09, 0x0D and 0x10 to 0x13 are ignored
(R462). -/
def Apu.write (r : Nat) (data : Byte) (a : Apu) : Apu :=
  match r with
  | 0x00 => { a with pulse1 := a.pulse1.writeControl data }
  | 0x01 => { a with pulse1 := a.pulse1.writeSweep data }
  | 0x02 => { a with pulse1 := a.pulse1.writeTimerLow data }
  | 0x03 => { a with pulse1 := a.pulse1.writeTimerHigh data }
  | 0x04 => { a with pulse2 := a.pulse2.writeControl data }
  | 0x05 => { a with pulse2 := a.pulse2.writeSweep data }
  | 0x06 => { a with pulse2 := a.pulse2.writeTimerLow data }
  | 0x07 => { a with pulse2 := a.pulse2.writeTimerHigh data }
  | 0x08 => { a with triangle := a.triangle.writeControl data }
  | 0x0A => { a with triangle := a.triangle.writeTimerLow data }
  | 0x0B => { a with triangle := a.triangle.writeTimerHigh data }
  | 0x0C => { a with noise := a.noise.writeControl data }
  | 0x0E => { a with noise := a.noise.writePeriod data }
  | 0x0F => { a with noise := a.noise.writeLength data }
  | 0x15 => a.writeEnables data
  | 0x17 => a.writeFrameCounter data
  | _ => a

/-- The status byte at 0x4015 (R512): which length counters are not 0. -/
def Apu.status (a : Apu) : Byte :=
  BitVec.ofNat 8
    ((a.pulse1.length != 0#8).toNat + (a.pulse2.length != 0#8).toNat * 2 + (a.triangle.length != 0#8).toNat * 4 +
      (a.noise.length != 0#8).toNat * 8)

/-- The pulse term of the mixer (R520). -/
def pulseMix (p1 p2 : Nat) : Rat := if p1 + p2 = 0 then 0 else (9588 / 100) / (8128 / ((p1 + p2 : Nat) : Rat) + 100)

/-- The triangle and noise term of the mixer (R520). -/
def tndMix (t n : Nat) : Rat :=
  if t = 0 ∧ n = 0 then 0 else (15979 / 100) / (1 / ((t : Rat) / 8227 + (n : Rat) / 12241) + 100)

/-- `APU.mix()` (R520), an exact rational. -/
def Apu.mix (a : Apu) : Rat :=
  pulseMix (a.pulse1.out true) (a.pulse2.out false) + tndMix a.triangle.out a.noise.out

/-- `APU.reset()` (R573). -/
def Apu.reset (_a : Apu) : Apu := Apu.initial

end Sys2Proof.Machine
end

