-- ==== Sys2Proof/Machine/Flags.lean ====
section
/-! DEFINITION. The status register and every flag computation: the accessors of `P` (R25), `setNZ` (R13), the status
bytes pushed and pulled (R30, R307), and the arithmetic units of 41 and 42 with the flags they give. -/

namespace Sys2Proof.Machine

/-- Mask of `P.C`, bit 0 (R25). -/
def maskC : Byte := 0x01#8
/-- Mask of `P.Z`, bit 1 (R25). -/
def maskZ : Byte := 0x02#8
/-- Mask of `P.I`, bit 2 (R25). -/
def maskI : Byte := 0x04#8
/-- Mask of `P.D`, bit 3 (R25). -/
def maskD : Byte := 0x08#8
/-- Mask of `P.B`, bit 4 (R25). -/
def maskB : Byte := 0x10#8
/-- Mask of `P.U`, bit 5 (R25). -/
def maskU : Byte := 0x20#8
/-- Mask of `P.V`, bit 6 (R25). -/
def maskV : Byte := 0x40#8
/-- Mask of `P.N`, bit 7 (R25). -/
def maskN : Byte := 0x80#8

/-- `P.C` (R26). -/
def flagC (p : Byte) : Bool := p.getLsbD 0
/-- `P.Z` (R27). -/
def flagZ (p : Byte) : Bool := p.getLsbD 1
/-- `P.I` (R28). -/
def flagI (p : Byte) : Bool := p.getLsbD 2
/-- `P.D` (R29). -/
def flagD (p : Byte) : Bool := p.getLsbD 3
/-- `P.B` (R30). -/
def flagB (p : Byte) : Bool := p.getLsbD 4
/-- `P.U` (R30). -/
def flagU (p : Byte) : Bool := p.getLsbD 5
/-- `P.V` (R33). -/
def flagV (p : Byte) : Bool := p.getLsbD 6
/-- `P.N` (R34). -/
def flagN (p : Byte) : Bool := p.getLsbD 7

/-- Write the flag of a mask and leave every other bit alone. -/
def setFlag (mask : Byte) (b : Bool) (p : Byte) : Byte := if b then p ||| mask else p &&& ~~~mask

/-- `setNZ(v)` (R13): Z is whether `v` is 0, N is bit 7 of `v`. -/
def setNZ (v : Byte) (p : Byte) : Byte := setFlag maskN (v.getLsbD 7) (setFlag maskZ (v == 0#8) p)

/-- The status byte that `PHP` and `BRK` push: B and U set (R30, R307). -/
def statusPushedByBreak (p : Byte) : Byte := p ||| 0x30#8

/-- The status byte that `irq()` and `nmi()` push: B clear, U set (R30, R307). -/
def statusPushedByInterrupt (p : Byte) : Byte := (p &&& 0xEF#8) ||| 0x20#8

/-- The status register loaded from a pulled byte: bits 4 and 5 of it are ignored (R30). -/
def statusPulled (v : Byte) : Byte := (v &&& 0xCF#8) ||| 0x20#8

/-- A result with the carry and overflow it gives. -/
structure AddResult where
  value : Byte
  carry : Bool
  overflow : Bool
deriving DecidableEq, Repr

/-- The binary adder of `ADC` (R170): the sum is an exact integer in 0 .. 511, the carry is its ninth bit, and the
overflow comes from the sign bits of operands and result. `P.D` is no input (R29). -/
def addWithCarry (a m : Byte) (c : Bool) : AddResult :=
  let sum := a.toNat + m.toNat + c.toNat
  let r : Byte := BitVec.ofNat 8 sum
  { value := r, carry := decide (sum > 0xFF), overflow := (~~~(a ^^^ m) &&& (a ^^^ r) &&& 0x80#8) != 0#8 }

/-- `SBC` (R171): the adder on the ones' complement of the operand. -/
def subWithBorrow (a m : Byte) (c : Bool) : AddResult := addWithCarry a (m ^^^ 0xFF#8) c

/-- The status after `ADC` or `SBC`: C, V, Z and N (R170, R171). -/
def setAddFlags (r : AddResult) (p : Byte) : Byte :=
  setNZ r.value (setFlag maskV r.overflow (setFlag maskC r.carry p))

/-- The status after a compare of register `r` with `m` (R176 to R178): C is `r ≥ m` unsigned, Z and N of the wrapped
difference. -/
def setCompareFlags (r m : Byte) (p : Byte) : Byte := setNZ (r - m) (setFlag maskC (decide (m.toNat ≤ r.toNat)) p)

/-- The status after `BIT` (R175): Z from `A & M`, N and V from bits 7 and 6 of `M`. -/
def setBitFlags (a m : Byte) (p : Byte) : Byte :=
  setFlag maskV (m.getLsbD 6) (setFlag maskN (m.getLsbD 7) (setFlag maskZ ((a &&& m) == 0#8) p))

/-- The result of a shift or rotate and the bit shifted out. -/
structure ShiftResult where
  value : Byte
  carry : Bool
deriving DecidableEq, Repr

/-- `ASL` (R190): bit 7 goes out, 0 comes in. -/
def shiftLeft (m : Byte) (_c : Bool) : ShiftResult := { value := m <<< 1, carry := m.getLsbD 7 }

/-- `LSR` (R191): bit 0 goes out, 0 comes in. -/
def shiftRight (m : Byte) (_c : Bool) : ShiftResult := { value := m >>> 1, carry := m.getLsbD 0 }

/-- `ROL` (R192): bit 7 goes out, the old carry enters bit 0. -/
def rotateLeft (m : Byte) (c : Bool) : ShiftResult := { value := (m <<< 1) ||| bitByte c, carry := m.getLsbD 7 }

/-- `ROR` (R193): bit 0 goes out, the old carry enters bit 7. -/
def rotateRight (m : Byte) (c : Bool) : ShiftResult := { value := (m >>> 1) ||| (bitByte c <<< 7), carry := m.getLsbD 0 }

/-- The status after a shift or rotate: C, Z and N (R190 to R193). -/
def setShiftFlags (r : ShiftResult) (p : Byte) : Byte := setNZ r.value (setFlag maskC r.carry p)

end Sys2Proof.Machine
end

