-- ==== Sys2Proof/Machine/Memory.lean ====
section
/-! DEFINITION. Sparse tables in ONE canonical form: (key, value) pairs, keys strictly rising, no value equal to the
default that an unlisted key reads as, so that equal contents are equal lists. Memories and the frame buffer are such
tables. -/

namespace Sys2Proof.Machine

/-- The value at a key; the default where the key is not listed. -/
def sparseRead {α : Type} (default : α) : List (Nat × α) → Nat → α
  | [], _ => default
  | (k, v) :: rest, i => if i = k then v else sparseRead default rest i

/-- Put an entry at the head, unless its value is the default. -/
def sparseCons {α : Type} [DecidableEq α] (default : α) (i : Nat) (v : α) (rest : List (Nat × α)) : List (Nat × α) :=
  if v = default then rest else (i, v) :: rest

/-- Write a value at a key and keep the canonical form: writing the default removes the entry. -/
def sparseWrite {α : Type} [DecidableEq α] (default : α) : List (Nat × α) → Nat → α → List (Nat × α)
  | [], i, v => sparseCons default i v []
  | (k, u) :: rest, i, v =>
    if i < k then sparseCons default i v ((k, u) :: rest)
    else if i = k then sparseCons default i v rest
    else (k, u) :: sparseWrite default rest i v

/-- Every key is at least `lo`, the keys rise strictly, and no value is the default. -/
def sparseRising {α : Type} [DecidableEq α] (default : α) : Nat → List (Nat × α) → Bool
  | _, [] => true
  | lo, (k, v) :: rest => decide (lo ≤ k) && decide (v ≠ default) && sparseRising default (k + 1) rest

/-- Every key is below `n`. -/
def sparseBelow {α : Type} (n : Nat) (m : List (Nat × α)) : Bool := m.all fun e => decide (e.1 < n)

/-- The table that holds the values of a list at the keys `i`, `i + 1`, …. -/
def sparseOfList {α : Type} [DecidableEq α] (default : α) : Nat → List α → List (Nat × α)
  | _, [] => []
  | i, v :: rest => sparseCons default i v (sparseOfList default (i + 1) rest)

/-- What an unlisted byte of a memory reads as (log 2). -/
def Memory.unlisted : Byte := 0#8

/-- Read one byte of a memory. -/
def Memory.read (m : Memory) (i : Nat) : Byte := sparseRead Memory.unlisted m i

/-- Write one byte of a memory. -/
def Memory.write (m : Memory) (i : Nat) (v : Byte) : Memory := sparseWrite Memory.unlisted m i v

/-- The canonical form: addresses strictly rising, no entry equal to what an unlisted address reads as. -/
def Memory.wf (m : Memory) : Bool := sparseRising Memory.unlisted 0 m

/-- The memory lists only addresses below its size. -/
def Memory.within (size : Nat) (m : Memory) : Bool := sparseBelow size m

/-- The memory that holds the bytes of a list from address 0 on. -/
def Memory.ofBytes (bytes : List Byte) : Memory := sparseOfList Memory.unlisted 0 bytes

/-- What an unlisted pixel of the frame buffer is: 0, its power-on value (R53). -/
def Frame.unlisted : BitVec 6 := 0#6

/-- `frame[y][x]` (R53). -/
def Frame.read (f : Frame) (y x : Nat) : BitVec 6 := sparseRead Frame.unlisted (sparseRead [] f y) x

/-- `frame[y][x] <- v` (R440). -/
def Frame.write (f : Frame) (y x : Nat) (v : BitVec 6) : Frame :=
  sparseWrite [] f y (sparseWrite Frame.unlisted (sparseRead [] f y) x v)

/-- The canonical form of a frame buffer of 240 rows of 256 pixels. -/
def Frame.wf (f : Frame) : Bool :=
  sparseRising [] 0 f && sparseBelow 240 f &&
    f.all fun row => sparseRising Frame.unlisted 0 row.2 && sparseBelow 256 row.2

end Sys2Proof.Machine
end

