-- ==== Sys2Proof/Machine/Params.lean ====
section
/-! DEFINITION. The numeric parameters that the spec fixes by a decision (00_scope.md R10). -/

namespace Sys2Proof.Machine

/-- `IRQ_CYCLES` (R10, R308). -/
def irqCycles : Nat := 7

/-- `NMI_CYCLES` (R10, R310). -/
def nmiCycles : Nat := 7

/-- The cycles that reset takes (R31, R571). -/
def resetCycles : Nat := 8

/-- `SPRITE_OVERFLOW_BUG` (R10, R427). -/
def spriteOverflowBug : Bool := true

/-- The address of the NMI vector (R85, R302). -/
def nmiVector : Word := 0xFFFA#16

/-- The address of the reset vector (R85, R302). -/
def resetVector : Word := 0xFFFC#16

/-- The address of the IRQ and `BRK` vector (R85, R302). -/
def irqVector : Word := 0xFFFE#16

/-- `MAPPERS` (R10, R547): the mapper ids that have an implementation. -/
def mappers : List Byte := [0#8]

end Sys2Proof.Machine
end

