-- ==== Sys2Proof/Machine/Cartridge.lean ====
section
/-! DEFINITION. The cartridge: the baseline mapper's four translations (R545, R546), the accesses that go through them
(R79, R395, R396), and the loading of a ROM image (R541 to R543). -/

namespace Sys2Proof.Machine

/-- `cpuMapRead(addr)` of the baseline mapper (R546): PRG from 0x8000 up, 16 KB mirrored or 32 KB. -/
def Cartridge.cpuMapRead (c : Cartridge) (addr : Word) : Option Nat :=
  if 0x8000 ≤ addr.toNat then some (if c.prgBanks > 1 then addr.toNat % 0x8000 else addr.toNat % 0x4000) else none

/-- `cpuMapWrite(addr, data)` of the baseline mapper (R546): PRG ROM is read-only and there are no registers. -/
def Cartridge.cpuMapWrite (_c : Cartridge) (_addr : Word) (_data : Byte) : Option Nat := none

/-- `ppuMapRead(addr)` of the baseline mapper, for an address of the pattern tables (R546). -/
def Cartridge.ppuMapRead (_c : Cartridge) (addr : PpuAddr) : Option Nat := some addr.toNat

/-- `ppuMapWrite(addr)` of the baseline mapper, for an address of the pattern tables: CHR RAM is writable, CHR ROM is
not (R546). -/
def Cartridge.ppuMapWrite (c : Cartridge) (addr : PpuAddr) : Option Nat :=
  if c.chrBanks = 0 then some addr.toNat else none

/-- A CPU read of cartridge space (R79): 0x00 where the mapper maps nothing or no cartridge is inserted. -/
def cartRead (cart : Option Cartridge) (addr : Word) : Byte :=
  match cart with
  | none => 0x00#8
  | some c =>
    match c.cpuMapRead addr with
    | some off => Memory.read c.prg off
    | none => 0x00#8

/-- A CPU write of cartridge space (R79): stored where the mapper gives an offset of writable PRG memory, else absorbed
or ignored. -/
def cartWrite (cart : Option Cartridge) (addr : Word) (data : Byte) : Option Cartridge :=
  match cart with
  | none => none
  | some c =>
    match c.cpuMapWrite addr data with
    | some off => some { c with prg := Memory.write c.prg off data }
    | none => some c

/-- A read of the pattern tables (R395): 0x00 where the mapper maps nothing or no cartridge is inserted. -/
def patternRead (cart : Option Cartridge) (addr : PpuAddr) : Byte :=
  match cart with
  | none => 0x00#8
  | some c =>
    match c.ppuMapRead addr with
    | some off => Memory.read c.chr off
    | none => 0x00#8

/-- A write of the pattern tables (R396): CHR RAM only. -/
def patternWrite (cart : Option Cartridge) (addr : PpuAddr) (data : Byte) : Option Cartridge :=
  match cart with
  | none => none
  | some c =>
    match c.ppuMapWrite addr with
    | some off => some { c with chr := Memory.write c.chr off data }
    | none => some c

/-- The nametable mirroring mode: `horizontal` with no cartridge (R397). -/
def mirroringOf (cart : Option Cartridge) : Mirroring :=
  match cart with
  | none => .horizontal
  | some c => c.mirroring

/-- The mapper's own reset: the baseline mapper has no registers, so nothing changes (R574). -/
def Cartridge.mapperReset (c : Cartridge) : Cartridge := c

/-- Why a ROM image is not a cartridge (R542, R543): results given to the host, no machine state. -/
inductive LoadError where
  /-- `RomLoadError`: the file is missing or unreadable. -/
  | missingFile
  /-- `RomLoadError`: the image is shorter than its header says. -/
  | truncated
  /-- `RomLoadError`: the magic bytes are wrong. -/
  | badMagic
  /-- `RomLoadError`: the image has no PRG bank. -/
  | noProgram
  /-- `UnsupportedMapperError`: no implementation of this mapper id. -/
  | unsupportedMapper (id : Byte)
deriving DecidableEq, Repr

/-- Byte `i` of an image; only read below its length. -/
def imageByte (image : List Byte) (i : Nat) : Byte := image.getD i 0#8

/-- The mapper id of a header (R541, R542). -/
def headerMapperId (image : List Byte) : Byte := (imageByte image 7 &&& 0xF0#8) ||| (imageByte image 6 >>> 4)

/-- The mirroring mode of a header (R541, R542): the four-screen bit overrides bit 0. -/
def headerMirroring (image : List Byte) : Mirroring :=
  if (imageByte image 6).getLsbD 3 then .fourScreen
  else if (imageByte image 6).getLsbD 0 then .vertical
  else .horizontal

/-- Where the PRG ROM begins: after the header and the trainer, if there is one (R541). -/
def headerPrgOffset (image : List Byte) : Nat := 16 + (if (imageByte image 6).getLsbD 2 then 512 else 0)

/-- The bytes `from .. from + count - 1` of an image, as a memory. -/
def imageSlice (image : List Byte) (start count : Nat) : Memory := Memory.ofBytes ((image.drop start).take count)

/-- `load` on the contents of a file, `none` when the file is missing or unreadable (R542). The power-on contents of
CHR RAM and of the four-screen RAM are open, so they are arguments (log 14). The checks are in the rule's order. -/
def loadImage (file : Option (List Byte)) (chrRam ntExt : Memory) : Except LoadError Cartridge :=
  match file with
  | none => .error .missingFile
  | some image =>
    if image.length < 16 then .error .truncated
    else if image.take 4 ≠ [0x4E#8, 0x45#8, 0x53#8, 0x1A#8] then .error .badMagic
    else
      let prgBanks := (imageByte image 4).toNat
      let chrBanks := (imageByte image 5).toNat
      let o := headerPrgOffset image
      if image.length < o + 16384 * prgBanks + 8192 * chrBanks then .error .truncated
      else if prgBanks = 0 then .error .noProgram
      else if headerMapperId image ∉ mappers then .error (.unsupportedMapper (headerMapperId image))
      else
        .ok
          { prg := imageSlice image o (16384 * prgBanks)
            chr := if chrBanks = 0 then chrRam else imageSlice image (o + 16384 * prgBanks) (8192 * chrBanks)
            prgBanks := prgBanks
            chrBanks := chrBanks
            mapperId := headerMapperId image
            mirroring := headerMirroring image
            battery := (imageByte image 6).getLsbD 1
            ntExt := if headerMirroring image = .fourScreen then ntExt else [] }

end Sys2Proof.Machine
end

