-- ==== Sys2Proof/Machine/PpuBus.lean ====
section
/-! DEFINITION. The PPU bus (62_ppu.md, section 2): nametable mirroring, the palette's aliases, `ppuRead` and
`ppuWrite`. -/

namespace Sys2Proof.Machine

/-- The cell behind a nametable address (R397). -/
inductive NametableCell where
  /-- A byte of `vram`. -/
  | vram (i : Nat)
  /-- A byte of the cartridge's extra nametable RAM. -/
  | ext (i : Nat)
deriving DecidableEq, Repr

/-- Nametable mirroring (R397): the cell of an address 0x2000 to 0x3EFF. -/
def nametableCell (mode : Mirroring) (a : PpuAddr) : NametableCell :=
  let q := a.toNat % 0x1000
  let table := q / 0x400
  let o := q % 0x400
  match mode with
  | .vertical => .vram (table % 2 * 1024 + o)
  | .horizontal => .vram (table / 2 * 1024 + o)
  | .singleLo => .vram o
  | .singleHi => .vram (1024 + o)
  | .fourScreen => if table < 2 then .vram (table * 1024 + o) else .ext ((table - 2) * 1024 + o)

/-- A nametable read (R395, R397). -/
def nametableRead (cart : Option Cartridge) (vram : Memory) (a : PpuAddr) : Byte :=
  match nametableCell (mirroringOf cart) a with
  | .vram i => Memory.read vram i
  | .ext i =>
    match cart with
    | some c => Memory.read c.ntExt i
    | none => 0x00#8

/-- `pal_index(a)` (R399): the low five bits, with 0x10, 0x14, 0x18, 0x1C aliasing 0x00, 0x04, 0x08, 0x0C. -/
def palIndex (a : PpuAddr) : Nat :=
  let i := a.toNat % 0x20
  if i = 0x10 ∨ i = 0x14 ∨ i = 0x18 ∨ i = 0x1C then i - 0x10 else i

/-- A palette read: only the low 6 bits are returned (R398). -/
def paletteRead (palette : Memory) (a : PpuAddr) : Byte := Memory.read palette (palIndex a) &&& 0x3F#8

/-- `ppuRead(a)` (R395). -/
def ppuRead (cart : Option Cartridge) (p : Ppu) (a : PpuAddr) : Byte :=
  if a.toNat ≤ 0x1FFF then patternRead cart a
  else if a.toNat ≤ 0x3EFF then nametableRead cart p.vram a
  else paletteRead p.palette a

/-- A nametable write (R396, R397). -/
def nametableWrite (cart : Option Cartridge) (p : Ppu) (a : PpuAddr) (data : Byte) : Ppu × Option Cartridge :=
  match nametableCell (mirroringOf cart) a with
  | .vram i => ({ p with vram := Memory.write p.vram i data }, cart)
  | .ext i =>
    match cart with
    | some c => (p, some { c with ntExt := Memory.write c.ntExt i data })
    | none => (p, none)

/-- `ppuWrite(a, data)` (R396): the PPU and the cartridge after it. -/
def ppuWrite (cart : Option Cartridge) (p : Ppu) (a : PpuAddr) (data : Byte) : Ppu × Option Cartridge :=
  if a.toNat ≤ 0x1FFF then (p, patternWrite cart a data)
  else if a.toNat ≤ 0x3EFF then nametableWrite cart p a data
  else ({ p with palette := Memory.write p.palette (palIndex a) data }, cart)

end Sys2Proof.Machine
end

