-- ==== Sys2Proof/Machine/PpuPorts.lean ====
section
/-! DEFINITION. The PPU's CPU-visible registers (62_ppu.md, section 1): the fields of `ctrl`, `mask` and `status`, the
fields of the loopy register (R47), and the reads and writes of the eight ports. -/

namespace Sys2Proof.Machine

/-- `ctrl.increment_mode` (R381). -/
def Ppu.incrementMode (p : Ppu) : Bool := p.ctrl.getLsbD 2
/-- `ctrl.pattern_sprite` (R381). -/
def Ppu.patternSprite (p : Ppu) : Bool := p.ctrl.getLsbD 3
/-- `ctrl.pattern_background` (R381). -/
def Ppu.patternBackground (p : Ppu) : Bool := p.ctrl.getLsbD 4
/-- `ctrl.sprite_size` (R381). -/
def Ppu.spriteSize (p : Ppu) : Bool := p.ctrl.getLsbD 5
/-- `ctrl.enable_nmi` (R381). -/
def Ppu.enableNmi (p : Ppu) : Bool := p.ctrl.getLsbD 7

/-- `mask.render_background_left` (R382). -/
def Ppu.renderBackgroundLeft (p : Ppu) : Bool := p.mask.getLsbD 1
/-- `mask.render_sprites_left` (R382). -/
def Ppu.renderSpritesLeft (p : Ppu) : Bool := p.mask.getLsbD 2
/-- `mask.render_background` (R382). -/
def Ppu.renderBackground (p : Ppu) : Bool := p.mask.getLsbD 3
/-- `mask.render_sprites` (R382). -/
def Ppu.renderSprites (p : Ppu) : Bool := p.mask.getLsbD 4
/-- "Rendering is enabled" (R382). -/
def Ppu.rendering (p : Ppu) : Bool := p.renderBackground || p.renderSprites

/-- The register `status` as a byte: bits 4 to 0 are never stored (R46, R383). -/
def Ppu.status (p : Ppu) : Byte :=
  BitVec.ofNat 8 (p.verticalBlank.toNat * 128 + p.spriteZeroHit.toNat * 64 + p.spriteOverflow.toNat * 32)

/-- `coarse_x`: bits 4:0 of the loopy register (R47). -/
def coarseX (v : Loopy) : BitVec 5 := v.extractLsb' 0 5
/-- `coarse_y`: bits 9:5 (R47). -/
def coarseY (v : Loopy) : BitVec 5 := v.extractLsb' 5 5
/-- `nametable_x`: bit 10 (R47). -/
def nametableX (v : Loopy) : Bool := v.getLsbD 10
/-- `nametable_y`: bit 11 (R47). -/
def nametableY (v : Loopy) : Bool := v.getLsbD 11
/-- `fine_y`: bits 14:12 (R47). -/
def fineY (v : Loopy) : BitVec 3 := v.extractLsb' 12 3

/-- Write `coarse_x`. -/
def setCoarseX (c : BitVec 5) (v : Loopy) : Loopy := (v &&& 0x7FE0#15) ||| c.setWidth 15
/-- Write `coarse_y`. -/
def setCoarseY (c : BitVec 5) (v : Loopy) : Loopy := (v &&& 0x7C1F#15) ||| (c.setWidth 15 <<< 5)
/-- Write `nametable_x`. -/
def setNametableX (b : Bool) (v : Loopy) : Loopy := (v &&& 0x7BFF#15) ||| (if b then 0x0400#15 else 0#15)
/-- Write `nametable_y`. -/
def setNametableY (b : Bool) (v : Loopy) : Loopy := (v &&& 0x77FF#15) ||| (if b then 0x0800#15 else 0#15)
/-- Write `fine_y`. -/
def setFineY (f : BitVec 3) (v : Loopy) : Loopy := (v &&& 0x0FFF#15) ||| (f.setWidth 15 <<< 12)

/-- `v & 0x3FFF`: the PPU bus address in `v` (R60, R391). -/
def busAddress (v : Loopy) : PpuAddr := v.setWidth 14

/-- The increment of `v` after a data-port access (R391, R392). -/
def Ppu.increment (p : Ppu) : Loopy := if p.incrementMode then 32#15 else 1#15

/-- What a read of port 2 returns (R387). -/
def Ppu.statusValue (p : Ppu) : Byte := (p.status &&& 0xE0#8) ||| (p.dataBuffer &&& 0x1F#8)

/-- Status read, port 2 (R387). -/
def Ppu.readStatus (readOnly : Bool) (p : Ppu) : Byte × Ppu :=
  (p.statusValue, if readOnly then p else { p with verticalBlank := false, w := false })

/-- OAM data read, port 4 (R388): no side effect. -/
def Ppu.readOamData (p : Ppu) : Byte := Memory.read p.oam p.oamAddr.toNat

/-- Data read, port 7 (R391): delayed by one read below the palette. -/
def Ppu.readData (cart : Option Cartridge) (readOnly : Bool) (p : Ppu) : Byte × Ppu :=
  let a := busAddress p.v
  let fetched := ppuRead cart p a
  let r := if 0x3F00 ≤ a.toNat then fetched else p.dataBuffer
  (r, if readOnly then p else { p with dataBuffer := fetched, v := p.v + p.increment })

/-- Register read (R385): the write-only ports read 0x00. -/
def Ppu.readPort (cart : Option Cartridge) (port : BitVec 3) (readOnly : Bool) (p : Ppu) : Byte × Ppu :=
  match port.toNat with
  | 2 => p.readStatus readOnly
  | 4 => (p.readOamData, p)
  | 7 => p.readData cart readOnly
  | _ => (0x00#8, p)

/-- Control write, port 0 (R393). -/
def Ppu.writeControl (data : Byte) (p : Ppu) : Ppu :=
  { p with ctrl := data, t := setNametableY (data.getLsbD 1) (setNametableX (data.getLsbD 0) p.t) }

/-- Mask write, port 1 (R394). -/
def Ppu.writeMask (data : Byte) (p : Ppu) : Ppu := { p with mask := data }

/-- OAM address write, port 3 (R394). -/
def Ppu.writeOamAddr (data : Byte) (p : Ppu) : Ppu := { p with oamAddr := data }

/-- Store a byte at the OAM address and step the address: a port 4 write (R388) and a DMA write (R361). -/
def Ppu.writeOamData (data : Byte) (p : Ppu) : Ppu :=
  { p with oam := Memory.write p.oam p.oamAddr.toNat data, oamAddr := p.oamAddr + 1#8 }

/-- Scroll write, port 5 (R389). -/
def Ppu.writeScroll (data : Byte) (p : Ppu) : Ppu :=
  if p.w then
    { p with t := setCoarseY (data.extractLsb' 3 5) (setFineY (data.extractLsb' 0 3) p.t), w := false }
  else { p with fineX := data.extractLsb' 0 3, t := setCoarseX (data.extractLsb' 3 5) p.t, w := true }

/-- The temporary address after the first address write: bits 13:8 from the data, bit 14 cleared (R390). -/
def setAddressHigh (data : Byte) (t : Loopy) : Loopy :=
  (t &&& 0x00FF#15) ||| ((data &&& 0x3F#8).setWidth 15 <<< 8)

/-- The temporary address after the second address write: bits 7:0 from the data (R390). -/
def setAddressLow (data : Byte) (t : Loopy) : Loopy := (t &&& 0x7F00#15) ||| data.setWidth 15

/-- Address write, port 6 (R390). -/
def Ppu.writeAddress (data : Byte) (p : Ppu) : Ppu :=
  if p.w then { p with t := setAddressLow data p.t, v := setAddressLow data p.t, w := false }
  else { p with t := setAddressHigh data p.t, w := true }

/-- Data write, port 7 (R392). -/
def Ppu.writeData (cart : Option Cartridge) (data : Byte) (p : Ppu) : Ppu × Option Cartridge :=
  let r := ppuWrite cart p (busAddress p.v) data
  ({ r.1 with v := p.v + p.increment }, r.2)

/-- Register write (R386): port 2 is ignored. -/
def Ppu.writePort (cart : Option Cartridge) (port : BitVec 3) (data : Byte) (p : Ppu) : Ppu × Option Cartridge :=
  match port.toNat with
  | 0 => (p.writeControl data, cart)
  | 1 => (p.writeMask data, cart)
  | 3 => (p.writeOamAddr data, cart)
  | 4 => (p.writeOamData data, cart)
  | 5 => (p.writeScroll data, cart)
  | 6 => (p.writeAddress data, cart)
  | 7 => p.writeData cart data
  | _ => (p, cart)

end Sys2Proof.Machine
end

