-- ==== Sys2Proof/Machine/PpuBackground.lean ====
section
/-! DEFINITION. The PPU's background pipeline (62_ppu.md, section 4): the fetches, the scroll arithmetic on `v`, the
shifters, the schedule within a scanline, and the background pixel. -/

namespace Sys2Proof.Machine

/-- Address of the nametable fetch (R411). -/
def nametableFetchAddr (v : Loopy) : PpuAddr := 0x2000#14 ||| (v &&& 0x0FFF#15).setWidth 14

/-- Address of the attribute fetch (R412). -/
def attributeFetchAddr (v : Loopy) : PpuAddr :=
  0x23C0#14 ||| (v &&& 0x0C00#15).setWidth 14 ||| ((v >>> 4) &&& 0x38#15).setWidth 14 |||
    ((v >>> 2) &&& 0x07#15).setWidth 14

/-- The 2-bit field of an attribute byte for the quadrant of `v` (R412). -/
def attributeBits (v : Loopy) (b : Byte) : BitVec 2 :=
  let b := if (coarseY v).getLsbD 1 then b >>> 4 else b
  let b := if (coarseX v).getLsbD 1 then b >>> 2 else b
  b.setWidth 2

/-- Address of the pattern fetch of a plane (R413, R414): `offset` is 0 for plane 0 and 8 for plane 1. -/
def patternFetchAddr (table : Bool) (tile : Byte) (row : BitVec 3) (offset : Nat) : PpuAddr :=
  BitVec.ofNat 14 (table.toNat * 0x1000 + tile.toNat * 16 + row.toNat + offset)

/-- `increment_x()` (R415). -/
def incrementX (v : Loopy) : Loopy :=
  if coarseX v = 31#5 then setNametableX (!nametableX v) (setCoarseX 0#5 v) else setCoarseX (coarseX v + 1#5) v

/-- `increment_y()` (R416). -/
def incrementY (v : Loopy) : Loopy :=
  if fineY v ≠ 7#3 then setFineY (fineY v + 1#3) v
  else
    let v := setFineY 0#3 v
    if coarseY v = 29#5 then setNametableY (!nametableY v) (setCoarseY 0#5 v)
    else if coarseY v = 31#5 then setCoarseY 0#5 v
    else setCoarseY (coarseY v + 1#5) v

/-- `transfer_x()` (R417): bits 4:0 and 10 from `t`. -/
def transferX (t v : Loopy) : Loopy := setNametableX (nametableX t) (setCoarseX (coarseX t) v)

/-- `transfer_y()` (R418): bits 14:12, 11 and 9:5 from `t`. -/
def transferY (t v : Loopy) : Loopy := setCoarseY (coarseY t) (setNametableY (nametableY t) (setFineY (fineY t) v))

/-- `shift_background()` (R419). -/
def Ppu.shiftBackground (p : Ppu) : Ppu :=
  { p with
    bgPatLo := p.bgPatLo <<< 1, bgPatHi := p.bgPatHi <<< 1, bgAttLo := p.bgAttLo <<< 1, bgAttHi := p.bgAttHi <<< 1 }

/-- Load the low byte of a shifter (R419). -/
def loadLow (shifter : BitVec 16) (b : Byte) : BitVec 16 := (shifter &&& 0xFF00#16) ||| b.setWidth 16

/-- `reload_background()` (R419). -/
def Ppu.reloadBackground (p : Ppu) : Ppu :=
  { p with
    bgPatLo := loadLow p.bgPatLo p.nextTileLsb
    bgPatHi := loadLow p.bgPatHi p.nextTileMsb
    bgAttLo := loadLow p.bgAttLo (if p.nextTileAttrib.getLsbD 0 then 0xFF#8 else 0x00#8)
    bgAttHi := loadLow p.bgAttHi (if p.nextTileAttrib.getLsbD 1 then 0xFF#8 else 0x00#8) }

/-- The nametable fetch into `next_tile_id` (R411). -/
def Ppu.fetchNametable (cart : Option Cartridge) (p : Ppu) : Ppu :=
  { p with nextTileId := ppuRead cart p (nametableFetchAddr p.v) }

/-- The attribute fetch into `next_tile_attrib` (R412). -/
def Ppu.fetchAttribute (cart : Option Cartridge) (p : Ppu) : Ppu :=
  { p with nextTileAttrib := attributeBits p.v (ppuRead cart p (attributeFetchAddr p.v)) }

/-- The byte of a pattern fetch (R413, R414). -/
def Ppu.patternByte (cart : Option Cartridge) (offset : Nat) (p : Ppu) : Byte :=
  ppuRead cart p (patternFetchAddr p.patternBackground p.nextTileId (fineY p.v) offset)

/-- Step 3 of the schedule (R410): what each dot of an 8-dot group does. -/
def Ppu.backgroundGroup (cart : Option Cartridge) (k : Nat) (p : Ppu) : Ppu :=
  match k with
  | 0 => p.fetchNametable cart
  | 2 => p.fetchAttribute cart
  | 4 => { p with nextTileLsb := p.patternByte cart 0 }
  | 6 => { p with nextTileMsb := p.patternByte cart 8 }
  | 7 => { p with v := incrementX p.v }
  | _ => p

/-- A step of the schedule that acts only under a condition on the dot. -/
def Ppu.doWhen (b : Bool) (f : Ppu → Ppu) (p : Ppu) : Ppu := if b then f p else p

/-- `background_pipeline(s, c)` (R410), the seven steps in order; called only while rendering is enabled. -/
def Ppu.backgroundPipeline (cart : Option Cartridge) (s : Int) (c : Nat) (p : Ppu) : Ppu :=
  let p := p.doWhen ((2 ≤ c && c ≤ 257) || (322 ≤ c && c ≤ 337)) Ppu.shiftBackground
  let p := p.doWhen (((9 ≤ c && c ≤ 257) || (329 ≤ c && c ≤ 337)) && c % 8 == 1) Ppu.reloadBackground
  let p := p.doWhen ((1 ≤ c && c ≤ 256) || (321 ≤ c && c ≤ 336)) (Ppu.backgroundGroup cart ((c - 1) % 8))
  let p := p.doWhen (c == 256) fun p => { p with v := incrementY p.v }
  let p := p.doWhen (c == 257) fun p => { p with v := transferX p.t p.v }
  let p := p.doWhen (s == -1 && 280 ≤ c && c ≤ 304) fun p => { p with v := transferY p.t p.v }
  p.doWhen (c == 337 || c == 339) (Ppu.fetchNametable cart)

/-- A 2-bit number from its two bits. -/
def twoBits (hi lo : Bool) : BitVec 2 := BitVec.ofNat 2 (hi.toNat * 2 + lo.toNat)

/-- `background_pixel(c)` (R420): the pixel and its palette. -/
def Ppu.backgroundPixel (c : Nat) (p : Ppu) : BitVec 2 × BitVec 2 :=
  if !p.renderBackground || (!p.renderBackgroundLeft && c ≤ 8) then (0#2, 0#2)
  else
    let k := 15 - p.fineX.toNat
    (twoBits (p.bgPatHi.getLsbD k) (p.bgPatLo.getLsbD k), twoBits (p.bgAttHi.getLsbD k) (p.bgAttLo.getLsbD k))

end Sys2Proof.Machine
end

