-- ==== Sys2Proof/Machine/PpuSprites.lean ====
section
/-! DEFINITION. The PPU's sprite pipeline (62_ppu.md, section 5): evaluation with the overflow search, pattern fetch,
shifting, and the sprite pixel. -/

namespace Sys2Proof.Machine

/-- The sprite height `h` (R425). -/
def Ppu.spriteHeight (p : Ppu) : Nat := if p.spriteSize then 16 else 8

/-- `0 ≤ s − y < h` (R426): a sprite byte read as a Y coordinate is in range for scanline `s`. -/
def inSpriteRange (s h : Nat) (y : Byte) : Bool := decide (y.toNat ≤ s) && decide (s - y.toNat < h)

/-- The four bytes of OAM entry `n` (R49). -/
def oamEntry (oam : Memory) (n : Nat) : SpriteEntry where
  y := Memory.read oam (4 * n)
  id := Memory.read oam (4 * n + 1)
  attr := Memory.read oam (4 * n + 2)
  x := Memory.read oam (4 * n + 3)

/-- The result of the selection loop: the entries found, in OAM order, whether the first is OAM sprite 0, and the first
OAM entry not yet examined. -/
structure SpriteSelection where
  found : List SpriteEntry
  hasZero : Bool
  next : Nat
deriving DecidableEq, Repr

/-- The selection loop of the evaluation (R426): from entry `n` on, at most `fuel` entries, until eight are found. -/
def selectSprites (oam : Memory) (s h : Nat) : Nat → Nat → Nat → SpriteSelection
  | 0, n, _ => ⟨[], false, n⟩
  | fuel + 1, n, count =>
    if 8 ≤ count then ⟨[], false, n⟩
    else
      let e := oamEntry oam n
      if inSpriteRange s h e.y then
        let r := selectSprites oam s h fuel (n + 1) (count + 1)
        ⟨e :: r.found, n == 0 || r.hasZero, r.next⟩
      else selectSprites oam s h fuel (n + 1) count

/-- The overflow search (R427) from entry `n` on, at most `fuel` entries; with the bug the byte offset `m` moves with
the entry. -/
def overflowSearch (bug : Bool) (oam : Memory) (s h : Nat) : Nat → Nat → Nat → Bool
  | 0, _, _ => false
  | fuel + 1, n, m =>
    if inSpriteRange s h (Memory.read oam (4 * n + m)) then true
    else overflowSearch bug oam s h fuel (n + 1) (if bug then (m + 1) % 4 else m)

/-- Clear the pattern shifters of a slot (R402, R426). -/
def SpriteSlot.clearPattern (sl : SpriteSlot) : SpriteSlot := { sl with patLo := 0#8, patHi := 0#8 }

/-- What the evaluation clears before it looks at OAM (R426). -/
def Ppu.clearSprites (p : Ppu) : Ppu :=
  { p with
    secOam := List.replicate 8 SpriteEntry.blank
    spriteCount := 0
    spriteZeroPossible := false
    slots := p.slots.map SpriteSlot.clearPattern }

/-- `sprite_evaluation(s)` (R426, R427, R436), at dot (s, 257). -/
def Ppu.spriteEvaluation (s : Nat) (p : Ppu) : Ppu :=
  let p := p.clearSprites
  if !p.rendering then p
  else
    let h := p.spriteHeight
    let r := selectSprites p.oam s h 64 0 0
    let full := decide (8 ≤ r.found.length)
    { p with
      secOam := r.found ++ List.replicate (8 - r.found.length) SpriteEntry.blank
      spriteCount := r.found.length
      spriteZeroPossible := r.hasZero
      spriteOverflow :=
        p.spriteOverflow || (full && overflowSearch spriteOverflowBug p.oam s h (64 - r.next) r.next 0) }

/-- The address of plane 0 of a sprite row (R428, R429), for a row within the height. -/
def spritePatternAddr (tall table : Bool) (e : SpriteEntry) (row : Nat) : PpuAddr :=
  let flipV := e.attr.getLsbD 7
  if tall then
    let r := if flipV then 15 - row else row
    let tile := (e.id &&& 0xFE#8).toNat + (if 8 ≤ r then 1 else 0)
    BitVec.ofNat 14 ((e.id.getLsbD 0).toNat * 0x1000 ||| tile * 16 ||| r % 8)
  else
    let r := if flipV then 7 - row else row
    BitVec.ofNat 14 (table.toNat * 0x1000 ||| e.id.toNat * 16 ||| r)

/-- The row of a sprite entry at scanline `s` lies within the sprite height (R428). It always does when
`ctrl.sprite_size` has not changed since the evaluation. -/
def Ppu.rowInRange (s : Nat) (p : Ppu) (e : SpriteEntry) : Bool := inSpriteRange s p.spriteHeight e.y

/-- A pattern byte of slot `i` (R428): plane 0 at the address, plane 1 at the address plus 8. For a row outside the
height the rule gives no byte and the byte is a free value (log 10). -/
def Ppu.spritePatternByte (cart : Option Cartridge) (s i plane : Nat) (p : Ppu) (e : SpriteEntry) : Byte :=
  if p.rowInRange s e then
    ppuRead cart p (spritePatternAddr p.spriteSize p.patternSprite e (s - e.y.toNat) + BitVec.ofNat 14 (8 * plane))
  else Config.freePatternByte (16 * p.freeCount + 2 * i + plane)

/-- Fill slot `i` from its entry (R428). -/
def Ppu.fetchSlot (cart : Option Cartridge) (s i : Nat) (p : Ppu) (e : SpriteEntry) : SpriteSlot :=
  let lo := p.spritePatternByte cart s i 0 e
  let hi := p.spritePatternByte cart s i 1 e
  let flipH := e.attr.getLsbD 6
  { patLo := if flipH then bitReverse8 lo else lo
    patHi := if flipH then bitReverse8 hi else hi
    x := e.x
    attr := e.attr }

/-- The slots from index `i` on after the fetch: those below `count` are filled, the others keep their pattern. -/
def Ppu.fetchSlots (cart : Option Cartridge) (s count : Nat) (p : Ppu) :
    Nat → List SpriteSlot → List SpriteEntry → List SpriteSlot
  | i, sl :: slots, e :: entries =>
    (if i < count then p.fetchSlot cart s i e else sl) :: p.fetchSlots cart s count (i + 1) slots entries
  | _, slots, _ => slots

/-- `sprite_fetch(s)` (R428), at dot (s, 320): nothing when rendering is disabled. -/
def Ppu.spriteFetch (cart : Option Cartridge) (s : Nat) (p : Ppu) : Ppu :=
  if !p.rendering then p
  else
    let active := p.secOam.take p.spriteCount
    { p with
      slots := p.fetchSlots cart s p.spriteCount 0 p.slots p.secOam
      freeCount := if active.all (p.rowInRange s) then p.freeCount else p.freeCount + 1 }

/-- One dot of one active slot (R431): count X down, then shift. -/
def SpriteSlot.shift (sl : SpriteSlot) : SpriteSlot :=
  if sl.x ≠ 0#8 then { sl with x := sl.x - 1#8 } else { sl with patLo := sl.patLo <<< 1, patHi := sl.patHi <<< 1 }

/-- `sprite_shift(c)` (R431): the slots below `sprite_count`, on cycles 2 to 257. -/
def Ppu.spriteShift (c : Nat) (p : Ppu) : Ppu :=
  if 2 ≤ c && c ≤ 257 then
    { p with slots := (p.slots.take p.spriteCount).map SpriteSlot.shift ++ p.slots.drop p.spriteCount }
  else p

/-- A sprite pixel: its value, palette 4 to 7, whether it is in front, whether it is OAM sprite 0 (R432). -/
structure SpritePixel where
  pixel : BitVec 2
  palette : BitVec 3
  inFront : Bool
  isZero : Bool
deriving DecidableEq, Repr

/-- No opaque sprite pixel (R432). -/
def SpritePixel.none : SpritePixel := ⟨0#2, 0#3, false, false⟩

/-- The pixel value a slot shows now (R432). -/
def SpriteSlot.pixel (sl : SpriteSlot) : BitVec 2 := twoBits (sl.patHi.getLsbD 7) (sl.patLo.getLsbD 7)

/-- The first slot with X counted down and an opaque pixel wins (R432). -/
def firstOpaque (zeroPossible : Bool) : Nat → List SpriteSlot → SpritePixel
  | _, [] => SpritePixel.none
  | i, sl :: slots =>
    if sl.x = 0#8 ∧ sl.pixel ≠ 0#2 then
      { pixel := sl.pixel
        palette := (sl.attr &&& 3#8).setWidth 3 + 4#3
        inFront := !sl.attr.getLsbD 5
        isZero := i == 0 && zeroPossible }
    else firstOpaque zeroPossible (i + 1) slots

/-- `sprite_pixel(c)` (R432). -/
def Ppu.spritePixel (c : Nat) (p : Ppu) : SpritePixel :=
  if !p.renderSprites || (!p.renderSpritesLeft && c ≤ 8) then SpritePixel.none
  else firstOpaque p.spriteZeroPossible 0 (p.slots.take p.spriteCount)

end Sys2Proof.Machine
end

