-- ==== Sys2Proof/Machine/PpuClock.lean ====
section
/-! DEFINITION. The PPU's dot (62_ppu.md, sections 3 and 6): the state machine over (scanline, cycle), vertical blank and
its NMI request, composition and pixel output, and the PPU's reset. -/

namespace Sys2Proof.Machine

/-- Pre-render clear, at dot (−1, 1) (R402). -/
def Ppu.preRenderClear (p : Ppu) : Ppu :=
  { p with
    verticalBlank := false
    spriteZeroHit := false
    spriteOverflow := false
    spriteCount := 0
    slots := p.slots.map SpriteSlot.clearPattern
    spriteZeroPossible := false }

/-- `enter_vblank()`, at dot (241, 1) (R403): the only place that sets `nmi_out`. -/
def Ppu.enterVblank (p : Ppu) : Ppu := { p with verticalBlank := true, nmiOut := p.nmiOut || p.enableNmi }

/-- Composition (R441): the pixel and the palette, 0 to 3 background, 4 to 7 sprite. -/
def compose (bp bpal : BitVec 2) (sp : SpritePixel) : BitVec 2 × BitVec 3 :=
  if bp = 0#2 then if sp.pixel = 0#2 then (0#2, 0#3) else (sp.pixel, sp.palette)
  else if sp.pixel = 0#2 then (bp, bpal.setWidth 3)
  else if sp.inFront then (sp.pixel, sp.palette)
  else (bp, bpal.setWidth 3)

/-- `sprite_zero_test(c)` and the condition it is called under (R440, R442). -/
def Ppu.spriteZeroTest (c : Nat) (bp : BitVec 2) (sp : SpritePixel) (p : Ppu) : Bool :=
  sp.isZero && bp != 0#2 && sp.pixel != 0#2 && p.renderBackground && p.renderSprites && decide (c ≤ 255)

/-- The palette address of a composed pixel (R443). -/
def pixelAddr (palette : BitVec 3) (pixel : BitVec 2) : PpuAddr :=
  BitVec.ofNat 14 (0x3F00 + palette.toNat * 4 + pixel.toNat)

/-- `pixel_output(s, c)` (R440). -/
def Ppu.pixelOutput (cart : Option Cartridge) (s c : Nat) (p : Ppu) : Ppu :=
  let b := p.backgroundPixel c
  let sp := p.spritePixel c
  let r := compose b.1 b.2 sp
  { p with
    spriteZeroHit := p.spriteZeroHit || p.spriteZeroTest c b.1 sp
    frame := Frame.write p.frame s (c - 1) ((ppuRead cart p (pixelAddr r.2 r.1)).setWidth 6) }

/-- `advance()` (R401, R404). -/
def Ppu.advance (p : Ppu) : Ppu :=
  if 340 < p.cycle + 1 then
    if 260 < p.scanline + 1 then { p with cycle := 0, scanline := -1, frameComplete := true }
    else { p with cycle := 0, scanline := p.scanline + 1 }
  else { p with cycle := p.cycle + 1 }

/-- `PPU.clock()`, one dot (R400): the conditions are on the position at entry. -/
def Ppu.clock (cart : Option Cartridge) (p : Ppu) : Ppu :=
  let s := p.scanline
  let c := p.cycle
  let visible := decide (0 ≤ s) && decide (s ≤ 239)
  let p := p.doWhen (s == -1 && c == 1) Ppu.preRenderClear
  let p := p.doWhen (decide (-1 ≤ s) && decide (s ≤ 239) && p.rendering) fun p =>
    (p.backgroundPipeline cart s c).spriteShift c
  let p := p.doWhen (visible && c == 257) (Ppu.spriteEvaluation s.toNat)
  let p := p.doWhen (visible && c == 320) (Ppu.spriteFetch cart s.toNat)
  let p := p.doWhen (s == 241 && c == 1) Ppu.enterVblank
  let p := p.doWhen (visible && decide (1 ≤ c) && decide (c ≤ 256)) (Ppu.pixelOutput cart s.toNat c)
  p.advance

/-- `PPU.reset()` (R572): everything but the memories and the frame buffer. The model's own `freeCount` is kept, so
that free values are not used twice. -/
def Ppu.reset (p : Ppu) : Ppu := { Ppu.initial p.vram p.palette p.oam p.frame with freeCount := p.freeCount }

end Sys2Proof.Machine
end

