-- ==== Sys2Proof/Machine/Ops.lean ====
section
/-! DEFINITION. The named operations that instructions and the clock are written with: the CPU bus (20_memory.md), the
CPU registers, the stack (R24), TAKING AN INTERRUPT as one shared operation (R301 to R311) and the return from one
(R244), and reset (R570 to R574). -/

namespace Sys2Proof.Machine

/-- The owner of a CPU address (R74). -/
inductive Owner where
  /-- CPU RAM, byte `i` of 2048. -/
  | ram (i : Nat)
  /-- PPU register port. -/
  | ppu (port : BitVec 3)
  /-- APU register: the address minus 0x4000, 0x00 to 0x13. -/
  | apu (r : Nat)
  /-- 0x4014. -/
  | oamDma
  /-- 0x4015. -/
  | apuStatus
  /-- 0x4016: controller 0 on read, the strobe on write. -/
  | pad0
  /-- 0x4017: controller 1 on read, the APU's frame counter on write. -/
  | pad1
  /-- 0x4018 to 0x401F. -/
  | unused
  /-- 0x4020 to 0xFFFF. -/
  | cartridge
deriving DecidableEq, Repr

/-- The CPU address decode (R74, R76, R77), total over 16 bits (R87). -/
def ownerOf (addr : Word) : Owner :=
  let n := addr.toNat
  if n < 0x2000 then .ram (n % 0x800)
  else if n < 0x4000 then .ppu (addr.setWidth 3)
  else if n < 0x4014 then .apu (n - 0x4000)
  else if n = 0x4014 then .oamDma
  else if n = 0x4015 then .apuStatus
  else if n = 0x4016 then .pad0
  else if n = 0x4017 then .pad1
  else if n < 0x4020 then .unused
  else .cartridge

/-- A serial controller register after one read (R357): shifted left, a 1 shifted in. -/
def padShift (shift : Byte) : Byte := (shift <<< 1) ||| 1#8

/-- The byte a controller read returns (R357): bit 7 of the shift register in bit 0, bits 7:1 zero. -/
def padByte (shift : Byte) : Byte := bitByte (shift.getLsbD 7)

/-- `Bus.cpuRead(addr, readOnly)` (R72, R74): the byte and the machine after the read. -/
def cpuRead (addr : Word) (readOnly : Bool) (s : State) : Byte × State :=
  match ownerOf addr with
  | .ram i => (Memory.read s.bus.ram i, s)
  | .ppu port =>
    let r := s.ppu.readPort s.cart port readOnly
    (r.1, { s with ppu := r.2 })
  | .apu _ => (0x00#8, s)
  | .oamDma => (0x00#8, s)
  | .apuStatus => (s.apu.status, s)
  | .pad0 =>
    (padByte s.bus.shift0, if readOnly then s else { s with bus := { s.bus with shift0 := padShift s.bus.shift0 } })
  | .pad1 =>
    (padByte s.bus.shift1, if readOnly then s else { s with bus := { s.bus with shift1 := padShift s.bus.shift1 } })
  | .unused => (0x00#8, s)
  | .cartridge => (cartRead s.cart addr, s)

/-- Write to 0x4014 (R360). -/
def startDma (data : Byte) (d : Dma) : Dma := { d with active := true, dummy := true, page := data, addr := 0#8 }

/-- Write to 0x4016 (R356). -/
def writeStrobe (data : Byte) (b : Bus) : Bus :=
  if data.getLsbD 0 then { b with strobe := true, shift0 := b.controller0, shift1 := b.controller1 }
  else { b with strobe := false }

/-- `Bus.cpuWrite(addr, value)` (R73, R74, R84). -/
def cpuWrite (addr : Word) (data : Byte) (s : State) : State :=
  match ownerOf addr with
  | .ram i => { s with bus := { s.bus with ram := Memory.write s.bus.ram i data } }
  | .ppu port =>
    let r := s.ppu.writePort s.cart port data
    { s with ppu := r.1, cart := r.2 }
  | .apu r => { s with apu := s.apu.write r data }
  | .oamDma => { s with bus := { s.bus with dma := startDma data s.bus.dma } }
  | .apuStatus => { s with apu := s.apu.write 0x15 data }
  | .pad0 => { s with bus := writeStrobe data s.bus }
  | .pad1 => { s with apu := s.apu.write 0x17 data }
  | .unused => s
  | .cartridge => { s with cart := cartWrite s.cart addr data }

/-- `MemRead(addr, 1)` (R13): a CPU read always has its side effects (R72). -/
def memRead (addr : Word) (s : State) : Byte × State := cpuRead addr false s

/-- `MemWrite(addr, 1, v)` (R13). -/
def memWrite (addr : Word) (v : Byte) (s : State) : State := cpuWrite addr v s

/-- The byte that a read of this address would return, with no side effect: the model's read of one byte (R72). -/
def peek (addr : Word) (s : State) : Byte := (cpuRead addr true s).1

/-- `A <- v`. -/
def setA (v : Byte) (s : State) : State := { s with cpu := { s.cpu with a := v } }
/-- `X <- v`. -/
def setX (v : Byte) (s : State) : State := { s with cpu := { s.cpu with x := v } }
/-- `Y <- v`. -/
def setY (v : Byte) (s : State) : State := { s with cpu := { s.cpu with y := v } }
/-- `SP <- v`. -/
def setSP (v : Byte) (s : State) : State := { s with cpu := { s.cpu with sp := v } }
/-- `PC <- v`. -/
def setPC (v : Word) (s : State) : State := { s with cpu := { s.cpu with pc := v } }
/-- `P <- v`. -/
def setP (v : Byte) (s : State) : State := { s with cpu := { s.cpu with p := v } }
/-- `cycles <- n`. -/
def setCycles (n : Nat) (s : State) : State := { s with cpu := { s.cpu with cycles := n } }
/-- `clock_count <- n`. -/
def setClockCount (n : Nat) (s : State) : State := { s with cpu := { s.cpu with clockCount := n } }

/-- `setNZ(v)` (R13) on the live status register. -/
def setNZOf (v : Byte) (s : State) : State := setP (setNZ v s.cpu.p) s

/-- The end of an instruction: its cycle count `base + extra` is loaded (R110, R135) and the machine goes on. Nothing
reads `cycles` during an instruction, so loading the sum once is loading the base and adding the extra (log 4). -/
def complete (n : Nat) (s : State) : Host.Outcome State Fault Refusal := .next (setCycles n s)

/-- `MemRead(addr, 2)` (R75): the low byte first, from `lo`, then the high byte from `hi`. -/
def readWord (lo hi : Word) (s : State) : Word × State :=
  let l := memRead lo s
  let h := memRead hi l.2
  (wordOf l.1 h.1, h.2)

/-- The stack location that `SP` addresses: `0x0100 + SP` (R24). -/
def stackAddr (sp : Byte) : Word := 0x0100#16 + zext16 sp

/-- `push(v)` (R13, R24): write, then decrement. -/
def push (v : Byte) (s : State) : State := setSP (s.cpu.sp - 1#8) (memWrite (stackAddr s.cpu.sp) v s)

/-- `pull()` (R13, R24): increment, then read. -/
def pull (s : State) : Byte × State := memRead (stackAddr (s.cpu.sp + 1#8)) (setSP (s.cpu.sp + 1#8) s)

/-- Push a word, high byte first (R71, R306). -/
def pushWord (w : Word) (s : State) : State := push (loByte w) (push (hiByte w) s)

/-- Pull a word, low byte first (R212, R244). -/
def pullWord (s : State) : Word × State :=
  let l := pull s
  let h := pull l.2
  (wordOf l.1 h.1, h.2)

/-- TAKING AN INTERRUPT, the entry that `irq()`, `nmi()` and `BRK` share (R301, R304, R306): push the return address,
high byte first, then the given status byte; set `P.I` or not; load `PC` from the vector, low byte first. `A`, `X`, `Y`
and the other flags do not change. -/
def enterInterrupt (ret : Word) (status : Byte) (disable : Bool) (vector : Word) (s : State) : State :=
  let s := push status (pushWord ret s)
  let s := if disable then setP (setFlag maskI true s.cpu.p) s else s
  let r := readWord vector (vector + 1#16) s
  setPC r.1 r.2

/-- THE RETURN FROM AN INTERRUPT (R244, R313): pull the status byte, of which bits 4 and 5 are ignored, then `PC`, with
no adjustment. -/
def returnFromInterrupt (s : State) : State :=
  let v := pull s
  let r := pullWord (setP (statusPulled v.1) v.2)
  setPC r.1 r.2

/-- `CPU.irq()` (R308): honoured only if `P.I` is clear; a refused call leaves no trace (R309). -/
def cpuIrq (s : State) : State :=
  if flagI s.cpu.p then s
  else setCycles irqCycles (enterInterrupt s.cpu.pc (statusPushedByInterrupt s.cpu.p) true irqVector s)

/-- `CPU.nmi()` (R310): always honoured; `P.I` is not changed (R311). -/
def cpuNmi (s : State) : State :=
  setCycles nmiCycles (enterInterrupt s.cpu.pc (statusPushedByInterrupt s.cpu.p) false nmiVector s)

/-- The open parameters of reset (R10, R571). -/
structure ResetValues where
  a : Byte
  x : Byte
  y : Byte
deriving DecidableEq, Repr

/-- `CPU.reset()` (R571). -/
def cpuReset (r : ResetValues) (s : State) : State :=
  let w := readWord resetVector (resetVector + 1#16) s
  { w.2 with
    cpu := { a := r.a, x := r.x, y := r.y, sp := 0xFD#8, pc := w.1, p := 0x24#8, cycles := resetCycles, clockCount := 0 } }

/-- The Bus's own part of reset (R570): RAM and the button latches are unchanged (R576). -/
def Bus.resetOwn (b : Bus) : Bus :=
  { b with
    sysClock := 0, dma := Dma.initial, shift0 := 0xFF#8, shift1 := 0xFF#8, strobe := false, sampleAcc := 0,
    audioSample := 0 }

/-- `Bus.reset()` (R570): the mapper, the CPU, the PPU, the APU, then the Bus's own state. -/
def busReset (r : ResetValues) (s : State) : State :=
  let s := { s with cart := s.cart.map Cartridge.mapperReset }
  let s := cpuReset r s
  { s with ppu := s.ppu.reset, apu := s.apu.reset, bus := s.bus.resetOwn }

end Sys2Proof.Machine
end

