-- ==== Sys2Proof/Machine/Operands.lean ====
section
/-! DEFINITION. The operand forms (R115 to R127): effective addresses, with the pointer reads they need and the page
crossing they report, the operand reads, and the cycle counts of R111 and R128. The operand bytes themselves were fetched
before (R117, R118): they are in the instruction. -/

namespace Sys2Proof.Machine

/-- What an addressing mode returns (R110): the effective address, whether a page was crossed, and the machine after the
mode's own reads. -/
structure Resolved where
  ea : Word
  crossed : Bool
  st : State
deriving DecidableEq, Repr

/-- The pages of two addresses differ (R16). -/
def pageDiffers (a b : Word) : Bool := hiByte a != hiByte b

/-- Index a base address (R123, R124, R127): a 16-bit sum that wraps; crossed when it leaves the base's page. -/
def indexed (base : Word) (index : Byte) (s : State) : Resolved :=
  let ea := base + zext16 index
  { ea := ea, crossed := pageDiffers ea base, st := s }

/-- The pointer in the zero page at `b`, its high byte at `b + 1` wrapping inside the zero page (R126, R127). -/
def zeroPagePointer (b : Byte) (s : State) : Word × State := readWord (zext16 b) (zext16 (b + 1#8)) s

/-- The address of the high byte of an indirect jump's pointer: the next byte of the SAME page (R125). -/
def samePageNext (ptr : Word) : Word := wordOf (loByte ptr + 1#8) (hiByte ptr)

/-- The effective address of a memory operand (R118 to R120, R122 to R124, R126, R127). -/
def resolve (m : MemOperand) (s : State) : Resolved :=
  match m with
  | .zp0 b => { ea := zext16 b, crossed := false, st := s }
  | .zpx b => { ea := zext16 (b + s.cpu.x), crossed := false, st := s }
  | .zpy b => { ea := zext16 (b + s.cpu.y), crossed := false, st := s }
  | .abs w => { ea := w, crossed := false, st := s }
  | .abx w => indexed w s.cpu.x s
  | .aby w => indexed w s.cpu.y s
  | .izx b =>
    let r := zeroPagePointer (b + s.cpu.x) s
    { ea := r.1, crossed := false, st := r.2 }
  | .izy b =>
    let r := zeroPagePointer b s
    indexed r.1 s.cpu.y r.2

/-- An operand that has been read: its value, whether a page was crossed, and the machine after the reads. -/
structure Fetched where
  value : Byte
  crossed : Bool
  st : State
deriving DecidableEq, Repr

/-- `M <- MemRead(ea, 1)` for a memory operand. -/
def loadMem (m : MemOperand) (s : State) : Fetched :=
  let r := resolve m s
  let v := memRead r.ea r.st
  { value := v.1, crossed := r.crossed, st := v.2 }

/-- The operand `M` of a reading instruction: the immediate byte (R117) or the byte at the effective address. -/
def loadOperand (m : ReadOperand) (s : State) : Fetched :=
  match m with
  | .imm v => { value := v, crossed := false, st := s }
  | .mem m => loadMem m s

/-- The target of `JMP` (R122, R125, R210). -/
def jumpAddress (t : JumpTarget) (s : State) : Word × State :=
  match t with
  | .abs w => (w, s)
  | .ind w => readWord w (samePageNext w) s

/-- Base cycles of an instruction that reads its operand, by form (R111). -/
def readCycles : ReadOperand → Nat
  | .imm _ => 2
  | .mem (.zp0 _) => 3
  | .mem (.zpx _) => 4
  | .mem (.zpy _) => 4
  | .mem (.abs _) => 4
  | .mem (.abx _) => 4
  | .mem (.aby _) => 4
  | .mem (.izx _) => 6
  | .mem (.izy _) => 5

/-- Base cycles of a store, by form (R111): the indexed forms include the crossing cycle (R128). -/
def storeCycles : MemOperand → Nat
  | .zp0 _ => 3
  | .zpx _ => 4
  | .zpy _ => 4
  | .abs _ => 4
  | .abx _ => 5
  | .aby _ => 5
  | .izx _ => 6
  | .izy _ => 6

/-- Base cycles of a read-modify-write instruction in memory, by form (R111). The forms `ZPY ABY IZX IZY` are not forms
of any such instruction (WellFormed.lean); their numbers are never used by a decoded instruction (log 19). -/
def modifyCycles : MemOperand → Nat
  | .zp0 _ => 5
  | .zpx _ => 6
  | .zpy _ => 6
  | .abs _ => 6
  | .abx _ => 7
  | .aby _ => 7
  | .izx _ => 8
  | .izy _ => 8

/-- The page-crossing cycle (R128). -/
def crossExtra (crossed : Bool) : Nat := if crossed then 1 else 0

/-- Base cycles of a shift or rotate, by form (R111). -/
def shiftCycles : ShiftOperand → Nat
  | .acc => 2
  | .mem m => modifyCycles m

/-- Base cycles of `JMP`, by form (R210). -/
def jumpCycles : JumpTarget → Nat
  | .abs _ => 3
  | .ind _ => 5

end Sys2Proof.Machine
end

