-- ==== Sys2Proof/Machine/Load.lean ====
section
/-! DEFINITION. Load, store and register-transfer instructions (40_load_store_transfer.md). In every meaning `PC` already
points past the instruction (R112). -/

namespace Sys2Proof.Machine

/-- A reading instruction: read the operand, then do `f` with its value; a page crossing costs a cycle (R128). -/
def readThen (m : ReadOperand) (f : Byte → State → State) (s : State) : Host.Outcome State Fault Refusal :=
  let o := loadOperand m s
  complete (readCycles m + crossExtra o.crossed) (f o.value o.st)

/-- A store: the effective address, then one write (R153 to R155); never an extra cycle (R128). -/
def storeTo (m : MemOperand) (v : Byte) (s : State) : Host.Outcome State Fault Refusal :=
  let r := resolve m s
  complete (storeCycles m) (memWrite r.ea v r.st)

/-- `LDA` (R150). -/
def execLda (m : ReadOperand) (s : State) : Host.Outcome State Fault Refusal :=
  readThen m (fun v s => setNZOf v (setA v s)) s

/-- `LDX` (R151). -/
def execLdx (m : ReadOperand) (s : State) : Host.Outcome State Fault Refusal :=
  readThen m (fun v s => setNZOf v (setX v s)) s

/-- `LDY` (R152). -/
def execLdy (m : ReadOperand) (s : State) : Host.Outcome State Fault Refusal :=
  readThen m (fun v s => setNZOf v (setY v s)) s

/-- `STA` (R153). -/
def execSta (m : MemOperand) (s : State) : Host.Outcome State Fault Refusal :=
  storeTo m s.cpu.a s

/-- `STX` (R154). -/
def execStx (m : MemOperand) (s : State) : Host.Outcome State Fault Refusal :=
  storeTo m s.cpu.x s

/-- `STY` (R155). -/
def execSty (m : MemOperand) (s : State) : Host.Outcome State Fault Refusal :=
  storeTo m s.cpu.y s

/-- `TAX` (R156). -/
def execTax (s : State) : Host.Outcome State Fault Refusal :=
  complete 2 (setNZOf s.cpu.a (setX s.cpu.a s))

/-- `TAY` (R157). -/
def execTay (s : State) : Host.Outcome State Fault Refusal :=
  complete 2 (setNZOf s.cpu.a (setY s.cpu.a s))

/-- `TXA` (R158). -/
def execTxa (s : State) : Host.Outcome State Fault Refusal :=
  complete 2 (setNZOf s.cpu.x (setA s.cpu.x s))

/-- `TYA` (R159). -/
def execTya (s : State) : Host.Outcome State Fault Refusal :=
  complete 2 (setNZOf s.cpu.y (setA s.cpu.y s))

/-- `TSX` (R160). -/
def execTsx (s : State) : Host.Outcome State Fault Refusal :=
  complete 2 (setNZOf s.cpu.sp (setX s.cpu.sp s))

/-- `TXS` (R161): the one transfer that writes no flag. -/
def execTxs (s : State) : Host.Outcome State Fault Refusal :=
  complete 2 (setSP s.cpu.x s)

end Sys2Proof.Machine
end

