-- ==== Sys2Proof/Machine/Arith.lean ====
section
/-! DEFINITION. Arithmetic, logic and compare instructions (41_arithmetic_logic.md). -/

namespace Sys2Proof.Machine

/-- `ADC` and `SBC` once the operand is read: `A` and the four flags from the adder (R170, R171). -/
def applyAdd (r : AddResult) (s : State) : State := setP (setAddFlags r s.cpu.p) (setA r.value s)

/-- `AND`, `ORA`, `EOR` once the result is known: `A`, Z and N (R172 to R174). -/
def applyLogic (r : Byte) (s : State) : State := setNZOf r (setA r s)

/-- A compare of register value `r` once the operand is read: only flags (R176 to R178). -/
def applyCompare (r v : Byte) (s : State) : State := setP (setCompareFlags r v s.cpu.p) s

/-- `ADC` (R170). -/
def execAdc (m : ReadOperand) (s : State) : Host.Outcome State Fault Refusal :=
  readThen m (fun v s => applyAdd (addWithCarry s.cpu.a v (flagC s.cpu.p)) s) s

/-- `SBC` (R171). -/
def execSbc (m : ReadOperand) (s : State) : Host.Outcome State Fault Refusal :=
  readThen m (fun v s => applyAdd (subWithBorrow s.cpu.a v (flagC s.cpu.p)) s) s

/-- `AND` (R172). -/
def execAnd (m : ReadOperand) (s : State) : Host.Outcome State Fault Refusal :=
  readThen m (fun v s => applyLogic (s.cpu.a &&& v) s) s

/-- `ORA` (R173). -/
def execOra (m : ReadOperand) (s : State) : Host.Outcome State Fault Refusal :=
  readThen m (fun v s => applyLogic (s.cpu.a ||| v) s) s

/-- `EOR` (R174). -/
def execEor (m : ReadOperand) (s : State) : Host.Outcome State Fault Refusal :=
  readThen m (fun v s => applyLogic (s.cpu.a ^^^ v) s) s

/-- `BIT` (R175). -/
def execBit (m : MemOperand) (s : State) : Host.Outcome State Fault Refusal :=
  readThen (.mem m) (fun v s => setP (setBitFlags s.cpu.a v s.cpu.p) s) s

/-- `CMP` (R176). -/
def execCmp (m : ReadOperand) (s : State) : Host.Outcome State Fault Refusal :=
  readThen m (fun v s => applyCompare s.cpu.a v s) s

/-- `CPX` (R177). -/
def execCpx (m : ReadOperand) (s : State) : Host.Outcome State Fault Refusal :=
  readThen m (fun v s => applyCompare s.cpu.x v s) s

/-- `CPY` (R178). -/
def execCpy (m : ReadOperand) (s : State) : Host.Outcome State Fault Refusal :=
  readThen m (fun v s => applyCompare s.cpu.y v s) s

end Sys2Proof.Machine
end

