-- ==== Sys2Proof/Machine/Control.lean ====
section
/-! DEFINITION. Control-transfer instructions (43_control_flow.md). -/

namespace Sys2Proof.Machine

/-- The branch target (R121): the address of the next instruction plus the sign-extended offset, modulo 65536. -/
def branchTarget (pc : Word) (off : Byte) : Word := pc + sext16 off

/-- The common rule of the branches (R213): 2 cycles, one more if taken, one more if the target lies in another page than
the next instruction. -/
def branchIf (condition : Bool) (off : Byte) (s : State) : Host.Outcome State Fault Refusal :=
  if condition then
    let target := branchTarget s.cpu.pc off
    complete (2 + if pageDiffers target s.cpu.pc then 2 else 1) (setPC target s)
  else complete 2 s

/-- `JMP` (R210). -/
def execJmp (t : JumpTarget) (s : State) : Host.Outcome State Fault Refusal :=
  let r := jumpAddress t s
  complete (jumpCycles t) (setPC r.1 r.2)

/-- `JSR` (R211): pushes the address of its own last byte. -/
def execJsr (w : Word) (s : State) : Host.Outcome State Fault Refusal :=
  complete 6 (setPC w (pushWord (s.cpu.pc - 1#16) s))

/-- `RTS` (R212): pulls an address and adds 1. -/
def execRts (s : State) : Host.Outcome State Fault Refusal :=
  let r := pullWord s
  complete 6 (setPC (r.1 + 1#16) r.2)

/-- `BCC` (R214). -/
def execBcc (off : Byte) (s : State) : Host.Outcome State Fault Refusal :=
  branchIf (!flagC s.cpu.p) off s

/-- `BCS` (R215). -/
def execBcs (off : Byte) (s : State) : Host.Outcome State Fault Refusal :=
  branchIf (flagC s.cpu.p) off s

/-- `BEQ` (R216). -/
def execBeq (off : Byte) (s : State) : Host.Outcome State Fault Refusal :=
  branchIf (flagZ s.cpu.p) off s

/-- `BNE` (R217). -/
def execBne (off : Byte) (s : State) : Host.Outcome State Fault Refusal :=
  branchIf (!flagZ s.cpu.p) off s

/-- `BMI` (R218). -/
def execBmi (off : Byte) (s : State) : Host.Outcome State Fault Refusal :=
  branchIf (flagN s.cpu.p) off s

/-- `BPL` (R219). -/
def execBpl (off : Byte) (s : State) : Host.Outcome State Fault Refusal :=
  branchIf (!flagN s.cpu.p) off s

/-- `BVC` (R220). -/
def execBvc (off : Byte) (s : State) : Host.Outcome State Fault Refusal :=
  branchIf (!flagV s.cpu.p) off s

/-- `BVS` (R221). -/
def execBvs (off : Byte) (s : State) : Host.Outcome State Fault Refusal :=
  branchIf (flagV s.cpu.p) off s

end Sys2Proof.Machine
end

