-- ==== Sys2Proof/Machine/Shift.lean ====
section
/-! DEFINITION. Shift, rotate, increment and decrement instructions (42_shift_incdec.md). -/

namespace Sys2Proof.Machine

/-- A read-modify-write instruction in memory: one read of the effective address, then one write of it (R83). `f` gives
the result and the new status from the byte read and the old status. -/
def modifyMem (m : MemOperand) (f : Byte → Byte → Byte × Byte) (s : State) : Host.Outcome State Fault Refusal :=
  let r := resolve m s
  let v := memRead r.ea r.st
  let t := f v.1 v.2.cpu.p
  complete (modifyCycles m) (memWrite r.ea t.1 (setP t.2 v.2))

/-- A shift or rotate `f` of `A` or of a byte in memory (R190 to R193). -/
def shiftOperand (f : Byte → Bool → ShiftResult) (m : ShiftOperand) (s : State) : Host.Outcome State Fault Refusal :=
  match m with
  | .acc =>
    let r := f s.cpu.a (flagC s.cpu.p)
    complete (shiftCycles .acc) (setP (setShiftFlags r s.cpu.p) (setA r.value s))
  | .mem m =>
    modifyMem m (fun v p => ((f v (flagC p)).value, setShiftFlags (f v (flagC p)) p)) s

/-- `ASL` (R190). -/
def execAsl (m : ShiftOperand) (s : State) : Host.Outcome State Fault Refusal :=
  shiftOperand shiftLeft m s

/-- `LSR` (R191). -/
def execLsr (m : ShiftOperand) (s : State) : Host.Outcome State Fault Refusal :=
  shiftOperand shiftRight m s

/-- `ROL` (R192). -/
def execRol (m : ShiftOperand) (s : State) : Host.Outcome State Fault Refusal :=
  shiftOperand rotateLeft m s

/-- `ROR` (R193). -/
def execRor (m : ShiftOperand) (s : State) : Host.Outcome State Fault Refusal :=
  shiftOperand rotateRight m s

/-- `INC` (R194). -/
def execInc (m : MemOperand) (s : State) : Host.Outcome State Fault Refusal :=
  modifyMem m (fun v p => (v + 1#8, setNZ (v + 1#8) p)) s

/-- `DEC` (R195). -/
def execDec (m : MemOperand) (s : State) : Host.Outcome State Fault Refusal :=
  modifyMem m (fun v p => (v - 1#8, setNZ (v - 1#8) p)) s

/-- `INX` (R196). -/
def execInx (s : State) : Host.Outcome State Fault Refusal :=
  complete 2 (setNZOf (s.cpu.x + 1#8) (setX (s.cpu.x + 1#8) s))

/-- `INY` (R197). -/
def execIny (s : State) : Host.Outcome State Fault Refusal :=
  complete 2 (setNZOf (s.cpu.y + 1#8) (setY (s.cpu.y + 1#8) s))

/-- `DEX` (R198). -/
def execDex (s : State) : Host.Outcome State Fault Refusal :=
  complete 2 (setNZOf (s.cpu.x - 1#8) (setX (s.cpu.x - 1#8) s))

/-- `DEY` (R199). -/
def execDey (s : State) : Host.Outcome State Fault Refusal :=
  complete 2 (setNZOf (s.cpu.y - 1#8) (setY (s.cpu.y - 1#8) s))

end Sys2Proof.Machine
end

