-- ==== Sys2Proof/Machine/System.lean ====
section
/-! DEFINITION. Stack, flag and system instructions (44_stack_flags_system.md). -/

namespace Sys2Proof.Machine

/-- An instruction that writes one flag and nothing else (R234 to R240). -/
def writeFlag (mask : Byte) (b : Bool) (s : State) : Host.Outcome State Fault Refusal :=
  complete 2 (setP (setFlag mask b s.cpu.p) s)

/-- `PHA` (R230). -/
def execPha (s : State) : Host.Outcome State Fault Refusal :=
  complete 3 (push s.cpu.a s)

/-- `PLA` (R231). -/
def execPla (s : State) : Host.Outcome State Fault Refusal :=
  let v := pull s
  complete 4 (setNZOf v.1 (setA v.1 v.2))

/-- `PHP` (R232): the pushed copy has B and U set. -/
def execPhp (s : State) : Host.Outcome State Fault Refusal :=
  complete 3 (push (statusPushedByBreak s.cpu.p) s)

/-- `PLP` (R233): bits 4 and 5 of the pulled byte are ignored. -/
def execPlp (s : State) : Host.Outcome State Fault Refusal :=
  let v := pull s
  complete 4 (setP (statusPulled v.1) v.2)

/-- `CLC` (R234). -/
def execClc (s : State) : Host.Outcome State Fault Refusal :=
  writeFlag maskC false s

/-- `SEC` (R235). -/
def execSec (s : State) : Host.Outcome State Fault Refusal :=
  writeFlag maskC true s

/-- `CLI` (R236). -/
def execCli (s : State) : Host.Outcome State Fault Refusal :=
  writeFlag maskI false s

/-- `SEI` (R237). -/
def execSei (s : State) : Host.Outcome State Fault Refusal :=
  writeFlag maskI true s

/-- `CLD` (R238). -/
def execCld (s : State) : Host.Outcome State Fault Refusal :=
  writeFlag maskD false s

/-- `SED` (R239). -/
def execSed (s : State) : Host.Outcome State Fault Refusal :=
  writeFlag maskD true s

/-- `CLV` (R240). -/
def execClv (s : State) : Host.Outcome State Fault Refusal :=
  writeFlag maskV false s

/-- `NOP` (R241). -/
def execNop (s : State) : Host.Outcome State Fault Refusal :=
  complete 2 s

/-- `BRK` (R243): TAKES the software interrupt. The return address is the opcode address plus 2; the padding byte is
never read. -/
def execBrk (s : State) : Host.Outcome State Fault Refusal :=
  complete 7 (enterInterrupt (s.cpu.pc + 1#16) (statusPushedByBreak s.cpu.p) true irqVector s)

/-- `RTI` (R244). -/
def execRti (s : State) : Host.Outcome State Fault Refusal :=
  complete 6 (returnFromInterrupt s)

end Sys2Proof.Machine
end

