-- ==== Sys2Proof/Machine/Undocumented.lean ====
section
/-! DEFINITION. The 105 undocumented opcodes (45_undocumented.md): one-byte no-operations of table-given cycle count. -/

namespace Sys2Proof.Machine

/-- `ILLEGAL_CYCLES` (R251): (opcode, base cycles), in the order of the rule's table. -/
def illegalCyclesTable : List (Nat × Nat) :=
  [(0x02, 2), (0x03, 8), (0x04, 3), (0x07, 5), (0x0B, 2)] ++
    [(0x0C, 4), (0x0F, 6), (0x12, 2), (0x13, 8), (0x14, 4)] ++
    [(0x17, 6), (0x1A, 2), (0x1B, 7), (0x1C, 4), (0x1F, 7)] ++
    [(0x22, 2), (0x23, 8), (0x27, 5), (0x2B, 2), (0x2F, 6)] ++
    [(0x32, 2), (0x33, 8), (0x34, 4), (0x37, 6), (0x3A, 2)] ++
    [(0x3B, 7), (0x3C, 4), (0x3F, 7), (0x42, 2), (0x43, 8)] ++
    [(0x44, 3), (0x47, 5), (0x4B, 2), (0x4F, 6), (0x52, 2)] ++
    [(0x53, 8), (0x54, 4), (0x57, 6), (0x5A, 2), (0x5B, 7)] ++
    [(0x5C, 4), (0x5F, 7), (0x62, 2), (0x63, 8), (0x64, 3)] ++
    [(0x67, 5), (0x6B, 2), (0x6F, 6), (0x72, 2), (0x73, 8)] ++
    [(0x74, 4), (0x77, 6), (0x7A, 2), (0x7B, 7), (0x7C, 4)] ++
    [(0x7F, 7), (0x80, 2), (0x82, 2), (0x83, 6), (0x87, 3)] ++
    [(0x89, 2), (0x8B, 2), (0x8F, 4), (0x92, 2), (0x93, 6)] ++
    [(0x97, 4), (0x9B, 5), (0x9C, 5), (0x9E, 5), (0x9F, 5)] ++
    [(0xA3, 6), (0xA7, 3), (0xAB, 2), (0xAF, 4), (0xB2, 2)] ++
    [(0xB3, 5), (0xB7, 4), (0xBB, 4), (0xBF, 4), (0xC2, 2)] ++
    [(0xC3, 8), (0xC7, 5), (0xCB, 2), (0xCF, 6), (0xD2, 2)] ++
    [(0xD3, 8), (0xD4, 4), (0xD7, 6), (0xDA, 2), (0xDB, 7)] ++
    [(0xDC, 4), (0xDF, 7), (0xE2, 2), (0xE3, 8), (0xE7, 5)] ++
    [(0xEB, 2), (0xEF, 6), (0xF2, 2), (0xF3, 8), (0xF4, 4)] ++
    [(0xF7, 6), (0xFA, 2), (0xFB, 7), (0xFC, 4), (0xFF, 7)]

/-- `ILLEGAL_CYCLES[opcode]` (R251). -/
def illegalCycles (op : Nat) : Nat := (illegalCyclesTable.lookup op).getD 2

/-- An undocumented opcode (R250): no register, flag or memory changes and nothing but the opcode is fetched. -/
def undocumented (op : Nat) (s : State) : Host.Outcome State Fault Refusal := complete (illegalCycles op) s

/-- Opcode 0x02 (R250). -/
def execUnd02 (s : State) : Host.Outcome State Fault Refusal := undocumented 0x02 s

/-- Opcode 0x03 (R250). -/
def execUnd03 (s : State) : Host.Outcome State Fault Refusal := undocumented 0x03 s

/-- Opcode 0x04 (R250). -/
def execUnd04 (s : State) : Host.Outcome State Fault Refusal := undocumented 0x04 s

/-- Opcode 0x07 (R250). -/
def execUnd07 (s : State) : Host.Outcome State Fault Refusal := undocumented 0x07 s

/-- Opcode 0x0B (R250). -/
def execUnd0B (s : State) : Host.Outcome State Fault Refusal := undocumented 0x0B s

/-- Opcode 0x0C (R250). -/
def execUnd0C (s : State) : Host.Outcome State Fault Refusal := undocumented 0x0C s

/-- Opcode 0x0F (R250). -/
def execUnd0F (s : State) : Host.Outcome State Fault Refusal := undocumented 0x0F s

/-- Opcode 0x12 (R250). -/
def execUnd12 (s : State) : Host.Outcome State Fault Refusal := undocumented 0x12 s

/-- Opcode 0x13 (R250). -/
def execUnd13 (s : State) : Host.Outcome State Fault Refusal := undocumented 0x13 s

/-- Opcode 0x14 (R250). -/
def execUnd14 (s : State) : Host.Outcome State Fault Refusal := undocumented 0x14 s

/-- Opcode 0x17 (R250). -/
def execUnd17 (s : State) : Host.Outcome State Fault Refusal := undocumented 0x17 s

/-- Opcode 0x1A (R250). -/
def execUnd1A (s : State) : Host.Outcome State Fault Refusal := undocumented 0x1A s

/-- Opcode 0x1B (R250). -/
def execUnd1B (s : State) : Host.Outcome State Fault Refusal := undocumented 0x1B s

/-- Opcode 0x1C (R250). -/
def execUnd1C (s : State) : Host.Outcome State Fault Refusal := undocumented 0x1C s

/-- Opcode 0x1F (R250). -/
def execUnd1F (s : State) : Host.Outcome State Fault Refusal := undocumented 0x1F s

/-- Opcode 0x22 (R250). -/
def execUnd22 (s : State) : Host.Outcome State Fault Refusal := undocumented 0x22 s

/-- Opcode 0x23 (R250). -/
def execUnd23 (s : State) : Host.Outcome State Fault Refusal := undocumented 0x23 s

/-- Opcode 0x27 (R250). -/
def execUnd27 (s : State) : Host.Outcome State Fault Refusal := undocumented 0x27 s

/-- Opcode 0x2B (R250). -/
def execUnd2B (s : State) : Host.Outcome State Fault Refusal := undocumented 0x2B s

/-- Opcode 0x2F (R250). -/
def execUnd2F (s : State) : Host.Outcome State Fault Refusal := undocumented 0x2F s

/-- Opcode 0x32 (R250). -/
def execUnd32 (s : State) : Host.Outcome State Fault Refusal := undocumented 0x32 s

/-- Opcode 0x33 (R250). -/
def execUnd33 (s : State) : Host.Outcome State Fault Refusal := undocumented 0x33 s

/-- Opcode 0x34 (R250). -/
def execUnd34 (s : State) : Host.Outcome State Fault Refusal := undocumented 0x34 s

/-- Opcode 0x37 (R250). -/
def execUnd37 (s : State) : Host.Outcome State Fault Refusal := undocumented 0x37 s

/-- Opcode 0x3A (R250). -/
def execUnd3A (s : State) : Host.Outcome State Fault Refusal := undocumented 0x3A s

/-- Opcode 0x3B (R250). -/
def execUnd3B (s : State) : Host.Outcome State Fault Refusal := undocumented 0x3B s

/-- Opcode 0x3C (R250). -/
def execUnd3C (s : State) : Host.Outcome State Fault Refusal := undocumented 0x3C s

/-- Opcode 0x3F (R250). -/
def execUnd3F (s : State) : Host.Outcome State Fault Refusal := undocumented 0x3F s

/-- Opcode 0x42 (R250). -/
def execUnd42 (s : State) : Host.Outcome State Fault Refusal := undocumented 0x42 s

/-- Opcode 0x43 (R250). -/
def execUnd43 (s : State) : Host.Outcome State Fault Refusal := undocumented 0x43 s

/-- Opcode 0x44 (R250). -/
def execUnd44 (s : State) : Host.Outcome State Fault Refusal := undocumented 0x44 s

/-- Opcode 0x47 (R250). -/
def execUnd47 (s : State) : Host.Outcome State Fault Refusal := undocumented 0x47 s

/-- Opcode 0x4B (R250). -/
def execUnd4B (s : State) : Host.Outcome State Fault Refusal := undocumented 0x4B s

/-- Opcode 0x4F (R250). -/
def execUnd4F (s : State) : Host.Outcome State Fault Refusal := undocumented 0x4F s

/-- Opcode 0x52 (R250). -/
def execUnd52 (s : State) : Host.Outcome State Fault Refusal := undocumented 0x52 s

/-- Opcode 0x53 (R250). -/
def execUnd53 (s : State) : Host.Outcome State Fault Refusal := undocumented 0x53 s

/-- Opcode 0x54 (R250). -/
def execUnd54 (s : State) : Host.Outcome State Fault Refusal := undocumented 0x54 s

/-- Opcode 0x57 (R250). -/
def execUnd57 (s : State) : Host.Outcome State Fault Refusal := undocumented 0x57 s

/-- Opcode 0x5A (R250). -/
def execUnd5A (s : State) : Host.Outcome State Fault Refusal := undocumented 0x5A s

/-- Opcode 0x5B (R250). -/
def execUnd5B (s : State) : Host.Outcome State Fault Refusal := undocumented 0x5B s

/-- Opcode 0x5C (R250). -/
def execUnd5C (s : State) : Host.Outcome State Fault Refusal := undocumented 0x5C s

/-- Opcode 0x5F (R250). -/
def execUnd5F (s : State) : Host.Outcome State Fault Refusal := undocumented 0x5F s

/-- Opcode 0x62 (R250). -/
def execUnd62 (s : State) : Host.Outcome State Fault Refusal := undocumented 0x62 s

/-- Opcode 0x63 (R250). -/
def execUnd63 (s : State) : Host.Outcome State Fault Refusal := undocumented 0x63 s

/-- Opcode 0x64 (R250). -/
def execUnd64 (s : State) : Host.Outcome State Fault Refusal := undocumented 0x64 s

/-- Opcode 0x67 (R250). -/
def execUnd67 (s : State) : Host.Outcome State Fault Refusal := undocumented 0x67 s

/-- Opcode 0x6B (R250). -/
def execUnd6B (s : State) : Host.Outcome State Fault Refusal := undocumented 0x6B s

/-- Opcode 0x6F (R250). -/
def execUnd6F (s : State) : Host.Outcome State Fault Refusal := undocumented 0x6F s

/-- Opcode 0x72 (R250). -/
def execUnd72 (s : State) : Host.Outcome State Fault Refusal := undocumented 0x72 s

/-- Opcode 0x73 (R250). -/
def execUnd73 (s : State) : Host.Outcome State Fault Refusal := undocumented 0x73 s

/-- Opcode 0x74 (R250). -/
def execUnd74 (s : State) : Host.Outcome State Fault Refusal := undocumented 0x74 s

/-- Opcode 0x77 (R250). -/
def execUnd77 (s : State) : Host.Outcome State Fault Refusal := undocumented 0x77 s

/-- Opcode 0x7A (R250). -/
def execUnd7A (s : State) : Host.Outcome State Fault Refusal := undocumented 0x7A s

/-- Opcode 0x7B (R250). -/
def execUnd7B (s : State) : Host.Outcome State Fault Refusal := undocumented 0x7B s

/-- Opcode 0x7C (R250). -/
def execUnd7C (s : State) : Host.Outcome State Fault Refusal := undocumented 0x7C s

/-- Opcode 0x7F (R250). -/
def execUnd7F (s : State) : Host.Outcome State Fault Refusal := undocumented 0x7F s

/-- Opcode 0x80 (R250). -/
def execUnd80 (s : State) : Host.Outcome State Fault Refusal := undocumented 0x80 s

/-- Opcode 0x82 (R250). -/
def execUnd82 (s : State) : Host.Outcome State Fault Refusal := undocumented 0x82 s

/-- Opcode 0x83 (R250). -/
def execUnd83 (s : State) : Host.Outcome State Fault Refusal := undocumented 0x83 s

/-- Opcode 0x87 (R250). -/
def execUnd87 (s : State) : Host.Outcome State Fault Refusal := undocumented 0x87 s

/-- Opcode 0x89 (R250). -/
def execUnd89 (s : State) : Host.Outcome State Fault Refusal := undocumented 0x89 s

/-- Opcode 0x8B (R250). -/
def execUnd8B (s : State) : Host.Outcome State Fault Refusal := undocumented 0x8B s

/-- Opcode 0x8F (R250). -/
def execUnd8F (s : State) : Host.Outcome State Fault Refusal := undocumented 0x8F s

/-- Opcode 0x92 (R250). -/
def execUnd92 (s : State) : Host.Outcome State Fault Refusal := undocumented 0x92 s

/-- Opcode 0x93 (R250). -/
def execUnd93 (s : State) : Host.Outcome State Fault Refusal := undocumented 0x93 s

/-- Opcode 0x97 (R250). -/
def execUnd97 (s : State) : Host.Outcome State Fault Refusal := undocumented 0x97 s

/-- Opcode 0x9B (R250). -/
def execUnd9B (s : State) : Host.Outcome State Fault Refusal := undocumented 0x9B s

/-- Opcode 0x9C (R250). -/
def execUnd9C (s : State) : Host.Outcome State Fault Refusal := undocumented 0x9C s

/-- Opcode 0x9E (R250). -/
def execUnd9E (s : State) : Host.Outcome State Fault Refusal := undocumented 0x9E s

/-- Opcode 0x9F (R250). -/
def execUnd9F (s : State) : Host.Outcome State Fault Refusal := undocumented 0x9F s

/-- Opcode 0xA3 (R250). -/
def execUndA3 (s : State) : Host.Outcome State Fault Refusal := undocumented 0xA3 s

/-- Opcode 0xA7 (R250). -/
def execUndA7 (s : State) : Host.Outcome State Fault Refusal := undocumented 0xA7 s

/-- Opcode 0xAB (R250). -/
def execUndAB (s : State) : Host.Outcome State Fault Refusal := undocumented 0xAB s

/-- Opcode 0xAF (R250). -/
def execUndAF (s : State) : Host.Outcome State Fault Refusal := undocumented 0xAF s

/-- Opcode 0xB2 (R250). -/
def execUndB2 (s : State) : Host.Outcome State Fault Refusal := undocumented 0xB2 s

/-- Opcode 0xB3 (R250). -/
def execUndB3 (s : State) : Host.Outcome State Fault Refusal := undocumented 0xB3 s

/-- Opcode 0xB7 (R250). -/
def execUndB7 (s : State) : Host.Outcome State Fault Refusal := undocumented 0xB7 s

/-- Opcode 0xBB (R250). -/
def execUndBB (s : State) : Host.Outcome State Fault Refusal := undocumented 0xBB s

/-- Opcode 0xBF (R250). -/
def execUndBF (s : State) : Host.Outcome State Fault Refusal := undocumented 0xBF s

/-- Opcode 0xC2 (R250). -/
def execUndC2 (s : State) : Host.Outcome State Fault Refusal := undocumented 0xC2 s

/-- Opcode 0xC3 (R250). -/
def execUndC3 (s : State) : Host.Outcome State Fault Refusal := undocumented 0xC3 s

/-- Opcode 0xC7 (R250). -/
def execUndC7 (s : State) : Host.Outcome State Fault Refusal := undocumented 0xC7 s

/-- Opcode 0xCB (R250). -/
def execUndCB (s : State) : Host.Outcome State Fault Refusal := undocumented 0xCB s

/-- Opcode 0xCF (R250). -/
def execUndCF (s : State) : Host.Outcome State Fault Refusal := undocumented 0xCF s

/-- Opcode 0xD2 (R250). -/
def execUndD2 (s : State) : Host.Outcome State Fault Refusal := undocumented 0xD2 s

/-- Opcode 0xD3 (R250). -/
def execUndD3 (s : State) : Host.Outcome State Fault Refusal := undocumented 0xD3 s

/-- Opcode 0xD4 (R250). -/
def execUndD4 (s : State) : Host.Outcome State Fault Refusal := undocumented 0xD4 s

/-- Opcode 0xD7 (R250). -/
def execUndD7 (s : State) : Host.Outcome State Fault Refusal := undocumented 0xD7 s

/-- Opcode 0xDA (R250). -/
def execUndDA (s : State) : Host.Outcome State Fault Refusal := undocumented 0xDA s

/-- Opcode 0xDB (R250). -/
def execUndDB (s : State) : Host.Outcome State Fault Refusal := undocumented 0xDB s

/-- Opcode 0xDC (R250). -/
def execUndDC (s : State) : Host.Outcome State Fault Refusal := undocumented 0xDC s

/-- Opcode 0xDF (R250). -/
def execUndDF (s : State) : Host.Outcome State Fault Refusal := undocumented 0xDF s

/-- Opcode 0xE2 (R250). -/
def execUndE2 (s : State) : Host.Outcome State Fault Refusal := undocumented 0xE2 s

/-- Opcode 0xE3 (R250). -/
def execUndE3 (s : State) : Host.Outcome State Fault Refusal := undocumented 0xE3 s

/-- Opcode 0xE7 (R250). -/
def execUndE7 (s : State) : Host.Outcome State Fault Refusal := undocumented 0xE7 s

/-- Opcode 0xEB (R250). -/
def execUndEB (s : State) : Host.Outcome State Fault Refusal := undocumented 0xEB s

/-- Opcode 0xEF (R250). -/
def execUndEF (s : State) : Host.Outcome State Fault Refusal := undocumented 0xEF s

/-- Opcode 0xF2 (R250). -/
def execUndF2 (s : State) : Host.Outcome State Fault Refusal := undocumented 0xF2 s

/-- Opcode 0xF3 (R250). -/
def execUndF3 (s : State) : Host.Outcome State Fault Refusal := undocumented 0xF3 s

/-- Opcode 0xF4 (R250). -/
def execUndF4 (s : State) : Host.Outcome State Fault Refusal := undocumented 0xF4 s

/-- Opcode 0xF7 (R250). -/
def execUndF7 (s : State) : Host.Outcome State Fault Refusal := undocumented 0xF7 s

/-- Opcode 0xFA (R250). -/
def execUndFA (s : State) : Host.Outcome State Fault Refusal := undocumented 0xFA s

/-- Opcode 0xFB (R250). -/
def execUndFB (s : State) : Host.Outcome State Fault Refusal := undocumented 0xFB s

/-- Opcode 0xFC (R250). -/
def execUndFC (s : State) : Host.Outcome State Fault Refusal := undocumented 0xFC s

/-- Opcode 0xFF (R250). -/
def execUndFF (s : State) : Host.Outcome State Fault Refusal := undocumented 0xFF s

end Sys2Proof.Machine
end

