-- ==== Sys2Proof/Machine/Dispatch.lean ====
section
/-! DEFINITION. The dispatch: one arm per constructor of `Instr` (R110, "Operation[d.operation]"). -/

namespace Sys2Proof.Machine

/-- The effect of an instruction that has been fetched: `PC` points past it (R112). -/
def exec (i : Instr) (s : State) : Host.Outcome State Fault Refusal :=
  match i with
  | .lda m => Sys2Proof.Machine.execLda m s
  | .ldx m => Sys2Proof.Machine.execLdx m s
  | .ldy m => Sys2Proof.Machine.execLdy m s
  | .sta m => Sys2Proof.Machine.execSta m s
  | .stx m => Sys2Proof.Machine.execStx m s
  | .sty m => Sys2Proof.Machine.execSty m s
  | .tax => Sys2Proof.Machine.execTax s
  | .tay => Sys2Proof.Machine.execTay s
  | .txa => Sys2Proof.Machine.execTxa s
  | .tya => Sys2Proof.Machine.execTya s
  | .tsx => Sys2Proof.Machine.execTsx s
  | .txs => Sys2Proof.Machine.execTxs s
  | .adc m => Sys2Proof.Machine.execAdc m s
  | .sbc m => Sys2Proof.Machine.execSbc m s
  | .and m => Sys2Proof.Machine.execAnd m s
  | .ora m => Sys2Proof.Machine.execOra m s
  | .eor m => Sys2Proof.Machine.execEor m s
  | .bit m => Sys2Proof.Machine.execBit m s
  | .cmp m => Sys2Proof.Machine.execCmp m s
  | .cpx m => Sys2Proof.Machine.execCpx m s
  | .cpy m => Sys2Proof.Machine.execCpy m s
  | .asl m => Sys2Proof.Machine.execAsl m s
  | .lsr m => Sys2Proof.Machine.execLsr m s
  | .rol m => Sys2Proof.Machine.execRol m s
  | .ror m => Sys2Proof.Machine.execRor m s
  | .inc m => Sys2Proof.Machine.execInc m s
  | .dec m => Sys2Proof.Machine.execDec m s
  | .inx => Sys2Proof.Machine.execInx s
  | .iny => Sys2Proof.Machine.execIny s
  | .dex => Sys2Proof.Machine.execDex s
  | .dey => Sys2Proof.Machine.execDey s
  | .jmp t => Sys2Proof.Machine.execJmp t s
  | .jsr w => Sys2Proof.Machine.execJsr w s
  | .rts => Sys2Proof.Machine.execRts s
  | .bcc off => Sys2Proof.Machine.execBcc off s
  | .bcs off => Sys2Proof.Machine.execBcs off s
  | .beq off => Sys2Proof.Machine.execBeq off s
  | .bne off => Sys2Proof.Machine.execBne off s
  | .bmi off => Sys2Proof.Machine.execBmi off s
  | .bpl off => Sys2Proof.Machine.execBpl off s
  | .bvc off => Sys2Proof.Machine.execBvc off s
  | .bvs off => Sys2Proof.Machine.execBvs off s
  | .pha => Sys2Proof.Machine.execPha s
  | .pla => Sys2Proof.Machine.execPla s
  | .php => Sys2Proof.Machine.execPhp s
  | .plp => Sys2Proof.Machine.execPlp s
  | .clc => Sys2Proof.Machine.execClc s
  | .sec => Sys2Proof.Machine.execSec s
  | .cli => Sys2Proof.Machine.execCli s
  | .sei => Sys2Proof.Machine.execSei s
  | .cld => Sys2Proof.Machine.execCld s
  | .sed => Sys2Proof.Machine.execSed s
  | .clv => Sys2Proof.Machine.execClv s
  | .nop => Sys2Proof.Machine.execNop s
  | .brk => Sys2Proof.Machine.execBrk s
  | .rti => Sys2Proof.Machine.execRti s
  | .und02 => Sys2Proof.Machine.execUnd02 s
  | .und03 => Sys2Proof.Machine.execUnd03 s
  | .und04 => Sys2Proof.Machine.execUnd04 s
  | .und07 => Sys2Proof.Machine.execUnd07 s
  | .und0B => Sys2Proof.Machine.execUnd0B s
  | .und0C => Sys2Proof.Machine.execUnd0C s
  | .und0F => Sys2Proof.Machine.execUnd0F s
  | .und12 => Sys2Proof.Machine.execUnd12 s
  | .und13 => Sys2Proof.Machine.execUnd13 s
  | .und14 => Sys2Proof.Machine.execUnd14 s
  | .und17 => Sys2Proof.Machine.execUnd17 s
  | .und1A => Sys2Proof.Machine.execUnd1A s
  | .und1B => Sys2Proof.Machine.execUnd1B s
  | .und1C => Sys2Proof.Machine.execUnd1C s
  | .und1F => Sys2Proof.Machine.execUnd1F s
  | .und22 => Sys2Proof.Machine.execUnd22 s
  | .und23 => Sys2Proof.Machine.execUnd23 s
  | .und27 => Sys2Proof.Machine.execUnd27 s
  | .und2B => Sys2Proof.Machine.execUnd2B s
  | .und2F => Sys2Proof.Machine.execUnd2F s
  | .und32 => Sys2Proof.Machine.execUnd32 s
  | .und33 => Sys2Proof.Machine.execUnd33 s
  | .und34 => Sys2Proof.Machine.execUnd34 s
  | .und37 => Sys2Proof.Machine.execUnd37 s
  | .und3A => Sys2Proof.Machine.execUnd3A s
  | .und3B => Sys2Proof.Machine.execUnd3B s
  | .und3C => Sys2Proof.Machine.execUnd3C s
  | .und3F => Sys2Proof.Machine.execUnd3F s
  | .und42 => Sys2Proof.Machine.execUnd42 s
  | .und43 => Sys2Proof.Machine.execUnd43 s
  | .und44 => Sys2Proof.Machine.execUnd44 s
  | .und47 => Sys2Proof.Machine.execUnd47 s
  | .und4B => Sys2Proof.Machine.execUnd4B s
  | .und4F => Sys2Proof.Machine.execUnd4F s
  | .und52 => Sys2Proof.Machine.execUnd52 s
  | .und53 => Sys2Proof.Machine.execUnd53 s
  | .und54 => Sys2Proof.Machine.execUnd54 s
  | .und57 => Sys2Proof.Machine.execUnd57 s
  | .und5A => Sys2Proof.Machine.execUnd5A s
  | .und5B => Sys2Proof.Machine.execUnd5B s
  | .und5C => Sys2Proof.Machine.execUnd5C s
  | .und5F => Sys2Proof.Machine.execUnd5F s
  | .und62 => Sys2Proof.Machine.execUnd62 s
  | .und63 => Sys2Proof.Machine.execUnd63 s
  | .und64 => Sys2Proof.Machine.execUnd64 s
  | .und67 => Sys2Proof.Machine.execUnd67 s
  | .und6B => Sys2Proof.Machine.execUnd6B s
  | .und6F => Sys2Proof.Machine.execUnd6F s
  | .und72 => Sys2Proof.Machine.execUnd72 s
  | .und73 => Sys2Proof.Machine.execUnd73 s
  | .und74 => Sys2Proof.Machine.execUnd74 s
  | .und77 => Sys2Proof.Machine.execUnd77 s
  | .und7A => Sys2Proof.Machine.execUnd7A s
  | .und7B => Sys2Proof.Machine.execUnd7B s
  | .und7C => Sys2Proof.Machine.execUnd7C s
  | .und7F => Sys2Proof.Machine.execUnd7F s
  | .und80 => Sys2Proof.Machine.execUnd80 s
  | .und82 => Sys2Proof.Machine.execUnd82 s
  | .und83 => Sys2Proof.Machine.execUnd83 s
  | .und87 => Sys2Proof.Machine.execUnd87 s
  | .und89 => Sys2Proof.Machine.execUnd89 s
  | .und8B => Sys2Proof.Machine.execUnd8B s
  | .und8F => Sys2Proof.Machine.execUnd8F s
  | .und92 => Sys2Proof.Machine.execUnd92 s
  | .und93 => Sys2Proof.Machine.execUnd93 s
  | .und97 => Sys2Proof.Machine.execUnd97 s
  | .und9B => Sys2Proof.Machine.execUnd9B s
  | .und9C => Sys2Proof.Machine.execUnd9C s
  | .und9E => Sys2Proof.Machine.execUnd9E s
  | .und9F => Sys2Proof.Machine.execUnd9F s
  | .undA3 => Sys2Proof.Machine.execUndA3 s
  | .undA7 => Sys2Proof.Machine.execUndA7 s
  | .undAB => Sys2Proof.Machine.execUndAB s
  | .undAF => Sys2Proof.Machine.execUndAF s
  | .undB2 => Sys2Proof.Machine.execUndB2 s
  | .undB3 => Sys2Proof.Machine.execUndB3 s
  | .undB7 => Sys2Proof.Machine.execUndB7 s
  | .undBB => Sys2Proof.Machine.execUndBB s
  | .undBF => Sys2Proof.Machine.execUndBF s
  | .undC2 => Sys2Proof.Machine.execUndC2 s
  | .undC3 => Sys2Proof.Machine.execUndC3 s
  | .undC7 => Sys2Proof.Machine.execUndC7 s
  | .undCB => Sys2Proof.Machine.execUndCB s
  | .undCF => Sys2Proof.Machine.execUndCF s
  | .undD2 => Sys2Proof.Machine.execUndD2 s
  | .undD3 => Sys2Proof.Machine.execUndD3 s
  | .undD4 => Sys2Proof.Machine.execUndD4 s
  | .undD7 => Sys2Proof.Machine.execUndD7 s
  | .undDA => Sys2Proof.Machine.execUndDA s
  | .undDB => Sys2Proof.Machine.execUndDB s
  | .undDC => Sys2Proof.Machine.execUndDC s
  | .undDF => Sys2Proof.Machine.execUndDF s
  | .undE2 => Sys2Proof.Machine.execUndE2 s
  | .undE3 => Sys2Proof.Machine.execUndE3 s
  | .undE7 => Sys2Proof.Machine.execUndE7 s
  | .undEB => Sys2Proof.Machine.execUndEB s
  | .undEF => Sys2Proof.Machine.execUndEF s
  | .undF2 => Sys2Proof.Machine.execUndF2 s
  | .undF3 => Sys2Proof.Machine.execUndF3 s
  | .undF4 => Sys2Proof.Machine.execUndF4 s
  | .undF7 => Sys2Proof.Machine.execUndF7 s
  | .undFA => Sys2Proof.Machine.execUndFA s
  | .undFB => Sys2Proof.Machine.execUndFB s
  | .undFC => Sys2Proof.Machine.execUndFC s
  | .undFF => Sys2Proof.Machine.execUndFF s

end Sys2Proof.Machine
end

