-- ==== Sys2Proof/Machine/Fetch.lean ====
section
/-! DEFINITION. Fetching an instruction (R110 to R114), and where the host places one. -/

namespace Sys2Proof.Machine

/-- One fetched byte: `MemRead(PC, 1); PC <- PC + 1`. An ordinary read, side effects included (R81, R92). -/
def fetchByte (s : State) : Byte × State :=
  let r := memRead s.cpu.pc s
  (r.1, setPC (r.2.cpu.pc + 1#16) r.2)

/-- The operand bytes `b1`, `b2` that the instruction's length has (R112, R113), in order; 0 for a byte it does not have,
which no decoding looks at. -/
def fetchOperands (n : Nat) (s : State) : Byte × Byte × State :=
  if n < 2 then (0#8, 0#8, s)
  else
    let b1 := fetchByte s
    if n < 3 then (b1.1, 0#8, b1.2)
    else
      let b2 := fetchByte b1.2
      (b1.1, b2.1, b2.2)

/-- A fetched instruction and the machine after the fetch, `PC` past the instruction (R112). -/
structure FetchedInstr where
  instr : Instr
  st : State
deriving DecidableEq, Repr

/-- Fetch the opcode, then the operand bytes its descriptor asks for (R110, R112). An immediate operand is read here: it
is the one read of R117, at the same address and in the same place of the order (log 5). -/
def fetchInstr (s : State) : FetchedInstr :=
  let op := fetchByte s
  let b := fetchOperands (opcodeLength op.1) op.2
  { instr := instrOf op.1 b.1 b.2.1, st := b.2.2 }

/-- The first half of `CPU.clock()` when `cycles` is 0: the whole instruction (R110). -/
def runInstr (s : State) : Host.Outcome State Fault Refusal :=
  let f := fetchInstr s
  exec f.instr f.st

/-- The second half of `CPU.clock()`: one CPU cycle is counted and one is paid (R110). -/
def countCycle (s : State) : State :=
  { s with cpu := { s.cpu with cycles := s.cpu.cycles - 1, clockCount := s.cpu.clockCount + 1 } }

/-- `CPU.clock()` (R110). -/
def cpuClock (s : State) : Host.Outcome State Fault Refusal :=
  if s.cpu.cycles = 0 then
    match runInstr s with
    | .next t => .next (countCycle t)
    | .fault e => .fault e
    | .refused e => .refused e
  else .next (countCycle s)

/-- Place a byte where a CPU read of `addr` finds it: in CPU RAM (R76) or in the PRG memory of the inserted cartridge
(R79). Nothing where the address has no memory behind it. -/
def placeByte (addr : Word) (v : Byte) (s : State) : Option State :=
  match ownerOf addr with
  | .ram i => some { s with bus := { s.bus with ram := Memory.write s.bus.ram i v } }
  | .cartridge =>
    match s.cart with
    | none => none
    | some c =>
      match c.cpuMapRead addr with
      | none => none
      | some off => some { s with cart := some { c with prg := Memory.write c.prg off v } }
  | .ppu _ | .apu _ | .oamDma | .apuStatus | .pad0 | .pad1 | .unused => none

/-- Place the bytes of a list at `addr`, `addr + 1`, …. -/
def placeBytes : List Byte → Word → State → Option State
  | [], _, s => some s
  | v :: rest, addr, s =>
    match placeByte addr v s with
    | none => none
    | some t => placeBytes rest (addr + 1#16) t

/-- Place the bytes of an instruction at `PC`; where `PC` has no memory behind it, `PC` moves to 0x0000 first (log 7). -/
def placeProgram (bytes : List Byte) (s : State) : State :=
  match placeBytes bytes s.cpu.pc s with
  | some t => t
  | none => (placeBytes bytes 0x0000#16 (setPC 0x0000#16 s)).getD s

/-- Bring the machine to a CPU slot on which the CPU fetches (R110, R351, R361): nothing left to count, no DMA, and the
Bus clock back at its last CPU slot, the APU's divider with it (R463). -/
def readyToFetch (s : State) : State :=
  { s with
    cpu := { s.cpu with cycles := 0 }
    bus := { s.bus with sysClock := s.bus.sysClock / 3 * 3, dma := { s.bus.dma with active := false } }
    apu := { s.apu with div := s.bus.sysClock / 3 * 3 % 6 } }

end Sys2Proof.Machine
end

