-- ==== Sys2Proof/Machine/Clock.lean ====
section
/-! DEFINITION. The master clock `Bus.clock()` (R350): what each of its steps does, in the order of the rule. -/

namespace Sys2Proof.Machine

/-- Step 1: one PPU dot. -/
def ppuTick (s : State) : State := { s with ppu := s.ppu.clock s.cart }

/-- `dma_step()`, the reading slot (R361): a CPU bus read with its side effects (R93). -/
def dmaRead (s : State) : State :=
  let r := memRead (wordOf s.bus.dma.addr s.bus.dma.page) s
  { r.2 with bus := { r.2.bus with dma := { r.2.bus.dma with data := r.1 } } }

/-- `dma_step()`, the writing slot (R361): straight to OAM, at `oam_addr` (R363). -/
def dmaWrite (s : State) : State :=
  let d := s.bus.dma
  let last := d.addr + 1#8 == 0#8
  { s with
    ppu := s.ppu.writeOamData d.data
    bus := { s.bus with dma := { d with addr := d.addr + 1#8, active := !last, dummy := last || d.dummy } } }

/-- `dma_step()` (R361). -/
def dmaStep (s : State) : State :=
  if s.bus.dma.dummy then
    if s.bus.sysClock % 2 = 1 then { s with bus := { s.bus with dma := { s.bus.dma with dummy := false } } } else s
  else if s.bus.sysClock % 2 = 0 then dmaRead s
  else dmaWrite s

/-- Step 2: the CPU slot (R351), which the DMA engine takes while it is active (R360). -/
def cpuSlot (s : State) : Host.Outcome State Fault Refusal :=
  if s.bus.sysClock % 3 = 0 then
    if s.bus.dma.active then .next (dmaStep s) else cpuClock s
  else .next s

/-- Step 3: one APU tick (R354). -/
def apuTick (s : State) : State := { s with apu := s.apu.clock }

/-- Step 4: NMI delivery (R353): the request is cleared and the CPU takes it at once. -/
def deliverNmi (s : State) : State :=
  if s.ppu.nmiOut then cpuNmi { s with ppu := { s.ppu with nmiOut := false } } else s

/-- Whether this call completes an audio sample (R365). -/
def sampleDue (s : State) : Bool := decide (Config.dotRateHz ≤ s.bus.sampleAcc + Config.sampleRateHz)

/-- Step 5: `sample_divider_step()` (R365). Written field by field, so that the open sample rate reaches only the two
fields that depend on it. -/
def sampleTick (s : State) : State :=
  { s with
    bus :=
      { s.bus with
        sampleAcc :=
          if sampleDue s then s.bus.sampleAcc + Config.sampleRateHz - Config.dotRateHz
          else s.bus.sampleAcc + Config.sampleRateHz
        audioSample := if sampleDue s then s.apu.mix else s.bus.audioSample } }

/-- Step 6: `sys_clock <- sys_clock + 1`. -/
def countDot (s : State) : State := { s with bus := { s.bus with sysClock := s.bus.sysClock + 1 } }

/-- Steps 3 to 6 of `Bus.clock()`. -/
def afterSlot (s : State) : State := countDot (sampleTick (deliverNmi (apuTick s)))

/-- `Bus.clock()` (R350), without its result `sampleReady`, which is `sampleReady` below. -/
def busClock (s : State) : Host.Outcome State Fault Refusal :=
  match cpuSlot (ppuTick s) with
  | .next t => .next (afterSlot t)
  | .fault e => .fault e
  | .refused e => .refused e

/-- The result of the `Bus.clock()` call that is about to be made (R350, R365): only the divider decides it. -/
def sampleReady (s : State) : Bool := sampleDue s

end Sys2Proof.Machine
end

