-- ==== Sys2Proof/Machine/Step.lean ====
section
/-! DEFINITION. The step: ONE call of `Bus.clock()`, one PPU dot (R350; log 4). -/

namespace Sys2Proof.Machine

/-- One step of the machine. -/
def step (s : State) : Host.Outcome State Fault Refusal := busClock s

/-- `s` with the instruction whose bits are `w` placed so that the very next step fetches and runs it (log 7). -/
def State.withFetchWord (s : State) (nbits w : Nat) : State := placeProgram (tableBytes nbits w) (readyToFetch s)

end Sys2Proof.Machine
end

