-- ==== Sys2Proof/Machine/HostOps.lean ====
section
/-! DEFINITION. The host interface (R341): the operations that the outside makes between two steps (R592), and the outputs
it reads. -/

namespace Sys2Proof.Machine

/-- What is open when the core is constructed (R10, R575): register contents, which the spec calls open or not
meaningful, and the contents of the four memories. -/
structure PowerOnValues where
  a : Byte
  x : Byte
  y : Byte
  sp : Byte
  pc : Word
  p : Byte
  ram : Memory
  vram : Memory
  palette : Memory
  oam : Memory
deriving DecidableEq, Repr

/-- The machine as constructed, before any reset (R575): no cartridge, `cycles` 0. -/
def powerOn (v : PowerOnValues) : State where
  cpu := { a := v.a, x := v.x, y := v.y, sp := v.sp, pc := v.pc, p := v.p, cycles := 0, clockCount := 0 }
  bus :=
    { ram := v.ram, sysClock := 0, controller0 := 0#8, controller1 := 0#8, shift0 := 0xFF#8, shift1 := 0xFF#8,
      strobe := false, dma := Dma.initial, sampleAcc := 0, audioSample := 0 }
  ppu := Ppu.initial v.vram v.palette v.oam []
  apu := Apu.initial
  cart := none

/-- Which controller (R355). -/
inductive Pad where
  | pad0
  | pad1
deriving DecidableEq, Repr

/-- A host write of `controller[id]` (R355): the program sees it at the next strobe (R356). -/
def setController (pad : Pad) (v : Byte) (s : State) : State :=
  match pad with
  | .pad0 => { s with bus := { s.bus with controller0 := v } }
  | .pad1 => { s with bus := { s.bus with controller1 := v } }

/-- `insertCartridge(path)` (R544): on a load error nothing changes (R543). `file` is what the path leads to, and the
contents of CHR RAM and of the four-screen RAM are open (log 14). -/
def insertCartridge (file : Option (List Byte)) (chrRam ntExt : Memory) (s : State) : Except LoadError Unit × State :=
  match loadImage file chrRam ntExt with
  | .error e => (.error e, s)
  | .ok c => (.ok (), { s with cart := some c })

/-- The host clears `frame_complete` (R404). -/
def clearFrameComplete (s : State) : State := { s with ppu := { s.ppu with frameComplete := false } }

/-- The operations that can change the machine (R341). -/
inductive HostOp where
  | clock
  | reset (values : ResetValues)
  | insertCartridge (file : Option (List Byte)) (chrRam ntExt : Memory)
  | setController (pad : Pad) (v : Byte)
  | cpuRead (addr : Word) (readOnly : Bool)
  | cpuWrite (addr : Word) (v : Byte)
  | clearFrameComplete
deriving DecidableEq, Repr

/-- One operation of the host (R341), without its result: `clock` is the step, the others act between two steps. -/
def hostStep (op : HostOp) (s : State) : Host.Outcome State Fault Refusal :=
  match op with
  | .clock => step s
  | .reset values => .next (busReset values s)
  | .insertCartridge file chrRam ntExt => .next (Machine.insertCartridge file chrRam ntExt s).2
  | .setController pad v => .next (Machine.setController pad v s)
  | .cpuRead addr readOnly => .next (Machine.cpuRead addr readOnly s).2
  | .cpuWrite addr v => .next (Machine.cpuWrite addr v s)
  | .clearFrameComplete => .next (Machine.clearFrameComplete s)

/-- A sequence of host operations. -/
def hostRun : List HostOp → State → Host.Outcome State Fault Refusal
  | [], s => .next s
  | op :: rest, s =>
    match hostStep op s with
    | .next t => hostRun rest t
    | .fault e => .fault e
    | .refused e => .refused e

/-- `GetScreen()` (R444): the palette index of the pixel at column `x` of row `y`. -/
def screenIndex (s : State) (y x : Nat) : BitVec 6 := Frame.read s.ppu.frame y x

/-- The colour shown at column `x` of row `y` (R53). -/
def screenColor (s : State) (y x : Nat) : Rgb := Config.systemPalette (screenIndex s y x)

/-- The four visual taps (R521), 0 to 15 each: pulse 1, pulse 2, triangle, noise. -/
def visualTaps (s : State) : Nat × Nat × Nat × Nat :=
  (s.apu.pulse1.out true, s.apu.pulse2.out false, s.apu.triangle.out, s.apu.noise.out)

end Sys2Proof.Machine
end

