-- ==== Sys2Proof/Machine/Debug.lean ====
section
/-! DEFINITION. The read-only debug projections (R327): `disassemble` (R132, R328), `GetPatternTable` (R445) and
`GetColorFromPaletteRam` (R446). None changes any state. -/

namespace Sys2Proof.Machine

/-- A hexadecimal digit, in capitals. -/
def hexDigit (n : Nat) : String := ["0", "1", "2", "3", "4", "5", "6", "7", "8", "9", "A", "B", "C", "D", "E", "F"].getD n "0"

/-- `$nn` (R132). -/
def hexByte (b : Byte) : String := "$" ++ hexDigit (b.toNat / 16) ++ hexDigit (b.toNat % 16)

/-- `$nnnn` (R132). -/
def hexWord (w : Word) : String :=
  "$" ++ hexDigit (w.toNat / 4096) ++ hexDigit (w.toNat / 256 % 16) ++ hexDigit (w.toNat / 16 % 16) ++
    hexDigit (w.toNat % 16)

/-- The operand text of a memory form (R132). -/
def MemOperand.text : MemOperand → String
  | .zp0 b => hexByte b
  | .zpx b => hexByte b ++ ",X"
  | .zpy b => hexByte b ++ ",Y"
  | .abs w => hexWord w
  | .abx w => hexWord w ++ ",X"
  | .aby w => hexWord w ++ ",Y"
  | .izx b => "(" ++ hexByte b ++ ",X)"
  | .izy b => "(" ++ hexByte b ++ "),Y"

/-- The operand text of a reading form (R132). -/
def ReadOperand.text : ReadOperand → String
  | .imm v => "#" ++ hexByte v
  | .mem m => MemOperand.text m

/-- The operand text of a shift form (R132). -/
def ShiftOperand.text : ShiftOperand → String
  | .acc => "A"
  | .mem m => MemOperand.text m

/-- The operand text of a jump (R132). -/
def JumpTarget.text : JumpTarget → String
  | .abs w => hexWord w
  | .ind w => "(" ++ hexWord w ++ ")"

/-- The text of a branch at `addr`: its target (R132, R328). -/
def branchText (addr : Word) (off : Byte) : String := hexWord (addr + 2#16 + sext16 off)

/-- The text of an instruction at `addr` (R132); `op` is its opcode, which is all that an undocumented one shows. -/
def instrText (addr : Word) (op : Byte) (i : Instr) : String :=
  match i with
  | .lda m => "LDA " ++ ReadOperand.text m
  | .ldx m => "LDX " ++ ReadOperand.text m
  | .ldy m => "LDY " ++ ReadOperand.text m
  | .adc m => "ADC " ++ ReadOperand.text m
  | .sbc m => "SBC " ++ ReadOperand.text m
  | .and m => "AND " ++ ReadOperand.text m
  | .ora m => "ORA " ++ ReadOperand.text m
  | .eor m => "EOR " ++ ReadOperand.text m
  | .cmp m => "CMP " ++ ReadOperand.text m
  | .cpx m => "CPX " ++ ReadOperand.text m
  | .cpy m => "CPY " ++ ReadOperand.text m
  | .sta m => "STA " ++ MemOperand.text m
  | .stx m => "STX " ++ MemOperand.text m
  | .sty m => "STY " ++ MemOperand.text m
  | .bit m => "BIT " ++ MemOperand.text m
  | .inc m => "INC " ++ MemOperand.text m
  | .dec m => "DEC " ++ MemOperand.text m
  | .asl m => "ASL " ++ ShiftOperand.text m
  | .lsr m => "LSR " ++ ShiftOperand.text m
  | .rol m => "ROL " ++ ShiftOperand.text m
  | .ror m => "ROR " ++ ShiftOperand.text m
  | .jmp t => "JMP " ++ JumpTarget.text t
  | .jsr w => "JSR " ++ hexWord w
  | .bcc off => "BCC " ++ branchText addr off
  | .bcs off => "BCS " ++ branchText addr off
  | .beq off => "BEQ " ++ branchText addr off
  | .bne off => "BNE " ++ branchText addr off
  | .bmi off => "BMI " ++ branchText addr off
  | .bpl off => "BPL " ++ branchText addr off
  | .bvc off => "BVC " ++ branchText addr off
  | .bvs off => "BVS " ++ branchText addr off
  | .tax => "TAX"
  | .tay => "TAY"
  | .txa => "TXA"
  | .tya => "TYA"
  | .tsx => "TSX"
  | .txs => "TXS"
  | .inx => "INX"
  | .iny => "INY"
  | .dex => "DEX"
  | .dey => "DEY"
  | .rts => "RTS"
  | .pha => "PHA"
  | .pla => "PLA"
  | .php => "PHP"
  | .plp => "PLP"
  | .clc => "CLC"
  | .sec => "SEC"
  | .cli => "CLI"
  | .sei => "SEI"
  | .cld => "CLD"
  | .sed => "SED"
  | .clv => "CLV"
  | .nop => "NOP"
  | .brk => "BRK"
  | .rti => "RTI"
  | .und02 | .und03 | .und04 | .und07 | .und0B | .und0C | .und0F | .und12 | .und13 | .und14 | .und17
  | .und1A | .und1B | .und1C | .und1F | .und22 | .und23 | .und27 | .und2B | .und2F | .und32 | .und33
  | .und34 | .und37 | .und3A | .und3B | .und3C | .und3F | .und42 | .und43 | .und44 | .und47 | .und4B
  | .und4F | .und52 | .und53 | .und54 | .und57 | .und5A | .und5B | .und5C | .und5F | .und62 | .und63
  | .und64 | .und67 | .und6B | .und6F | .und72 | .und73 | .und74 | .und77 | .und7A | .und7B | .und7C
  | .und7F | .und80 | .und82 | .und83 | .und87 | .und89 | .und8B | .und8F | .und92 | .und93 | .und97
  | .und9B | .und9C | .und9E | .und9F | .undA3 | .undA7 | .undAB | .undAF | .undB2 | .undB3 | .undB7
  | .undBB | .undBF | .undC2 | .undC3 | .undC7 | .undCB | .undCF | .undD2 | .undD3 | .undD4 | .undD7
  | .undDA | .undDB | .undDC | .undDF | .undE2 | .undE3 | .undE7 | .undEB | .undEF | .undF2 | .undF3
  | .undF4 | .undF7 | .undFA | .undFB | .undFC | .undFF => ".byte " ++ hexByte op

/-- The instruction at an address, read with no side effect, and its opcode (R328). -/
def peekInstr (addr : Word) (s : State) : Byte × Instr :=
  let op := peek addr s
  (op, instrOf op (peek (addr + 1#16) s) (peek (addr + 2#16) s))

/-- The lines from `a` to the end, which is `fuel` addresses away or fewer: each instruction is at least one byte long. -/
def disassembleFrom (s : State) (last : Nat) : Nat → Nat → List (Nat × String)
  | 0, _ => []
  | fuel + 1, a =>
    if last < a then []
    else
      let addr : Word := BitVec.ofNat 16 a
      let i := peekInstr addr s
      (a, instrText addr i.1 i.2) :: disassembleFrom s last fuel (a + opcodeLength i.1)

/-- `disassemble(start, end)` (R328): (address, text) pairs, the address a natural number that does not wrap. -/
def disassemble (start stop : Word) (s : State) : List (Nat × String) :=
  disassembleFrom s stop.toNat (stop.toNat + 1 - start.toNat) start.toNat

/-- `GetColorFromPaletteRam(palette, pixel)` (R446), as the index into `SYSTEM_PALETTE`. -/
def paletteRamIndex (palette : BitVec 3) (pixel : BitVec 2) (s : State) : BitVec 6 :=
  (ppuRead s.cart s.ppu (pixelAddr palette pixel)).setWidth 6

/-- `GetColorFromPaletteRam(palette, pixel)` (R446). -/
def paletteRamColor (palette : BitVec 3) (pixel : BitVec 2) (s : State) : Rgb :=
  Config.systemPalette (paletteRamIndex palette pixel s)

/-- The pixel at column `col` of row `row` of tile (`ty`, `tx`) of pattern table `i` (R445), before the palette. -/
def patternPixel (i : BitVec 1) (ty tx : BitVec 4) (row col : BitVec 3) (s : State) : BitVec 2 :=
  let base := i.toNat * 0x1000 + ty.toNat * 256 + tx.toNat * 16 + row.toNat
  let lo := ppuRead s.cart s.ppu (BitVec.ofNat 14 base)
  let hi := ppuRead s.cart s.ppu (BitVec.ofNat 14 (base + 8))
  BitVec.ofNat 2 ((hi.getLsbD (7 - col.toNat)).toNat * 2 + (lo.getLsbD (7 - col.toNat)).toNat)

/-- `GetPatternTable(i, palette)` at row `y` and column `x` of its 128 × 128 image (R445). -/
def patternTableColor (i : BitVec 1) (palette : BitVec 3) (y x : BitVec 7) (s : State) : Rgb :=
  paletteRamColor palette
    (patternPixel i (y.extractLsb' 3 4) (x.extractLsb' 3 4) (y.extractLsb' 0 3) (x.extractLsb' 0 3) s) s

/-- `GetPatternTable(i, palette)` (R445), row by row. -/
def patternTable (i : BitVec 1) (palette : BitVec 3) (s : State) : List (List Rgb) :=
  (List.range 128).map fun y =>
    (List.range 128).map fun x => patternTableColor i palette (BitVec.ofNat 7 y) (BitVec.ofNat 7 x) s

end Sys2Proof.Machine
end

