-- ==== Sys2Proof/Safety.lean ====
section
/-! DEFINITION. The invariant of the machine between two steps (10_state.md R62 and the ranges of R31, R45, R49, R50, R52,
R54, R59), in named parts, the moment at which an instruction is fetched, and the vocabulary that the statements of
Certificates/Slice0/Obligations.lean are written in. -/

namespace Sys2Proof.Machine

/-- The CPU: the two flags that never change in the live register (R30) and the largest value of `cycles` (R31). -/
structure Cpu.Inv (c : Cpu) : Prop where
  breakClear : flagB c.p = false
  unusedSet : flagU c.p = true
  cyclesLe : c.cycles ≤ 8

/-- A memory of `size` bytes: in canonical form, nothing listed beyond its end. -/
structure Memory.Inv (size : Nat) (m : Memory) : Prop where
  wf : m.wf = true
  within : m.within size = true

/-- The Bus (R40, R45). -/
structure Bus.Inv (b : Bus) : Prop where
  ram : Memory.Inv 2048 b.ram
  sampleAcc : b.sampleAcc < Config.dotRateHz
  sampleNonneg : 0 ≤ b.audioSample
  sampleLe : b.audioSample ≤ 1

/-- The PPU (R49, R50, R52, R53); `nmi_out` is never set between two steps (R353). -/
structure Ppu.Inv (p : Ppu) : Prop where
  vram : Memory.Inv 2048 p.vram
  palette : Memory.Inv 32 p.palette
  oam : Memory.Inv 256 p.oam
  frame : p.frame.wf = true
  scanlineGe : -1 ≤ p.scanline
  scanlineLe : p.scanline ≤ 260
  cycleLe : p.cycle ≤ 340
  spriteCountLe : p.spriteCount ≤ 8
  secOam : p.secOam.length = 8
  slots : p.slots.length = 8
  nmiOut : p.nmiOut = false

/-- The APU (R54, R62, R466, R503). -/
structure Apu.Inv (a : Apu) : Prop where
  lfsr : a.noise.lfsr ≠ 0#15
  length1 : a.pulse1.length.toNat ≤ 254
  length2 : a.pulse2.length.toNat ≤ 254
  lengthT : a.triangle.length.toNat ≤ 254
  lengthN : a.noise.length.toNat ≤ 254
  frameCounter : a.frameCounter < wrapCount a.frameMode
  div : a.div < 6

/-- The bytes of CHR memory that a cartridge has (R59, R541). -/
def Cartridge.chrSize (c : Cartridge) : Nat := if c.chrBanks = 0 then 8192 else 8192 * c.chrBanks

/-- A cartridge (R59, R542). -/
structure Cartridge.Inv (c : Cartridge) : Prop where
  prg : Memory.Inv (16384 * c.prgBanks) c.prg
  chr : Memory.Inv c.chrSize c.chr
  ntExt : Memory.Inv 2048 c.ntExt
  prgBanksPos : 1 ≤ c.prgBanks
  mapper : c.mapperId ∈ mappers

/-- The whole-state invariant between two steps (R62). The APU's divider and the Bus's clock stay in step (R351, R463). -/
structure State.Inv (s : State) : Prop where
  cpu : s.cpu.Inv
  bus : s.bus.Inv
  ppu : s.ppu.Inv
  apu : s.apu.Inv
  cart : ∀ c, s.cart = some c → c.Inv
  divider : s.apu.div = s.bus.sysClock % 6

/-- The next step runs an instruction (R110, R351): it is a CPU slot, no DMA holds it and nothing is left to count. -/
structure State.atFetch (s : State) : Prop where
  slot : s.bus.sysClock % 3 = 0
  noDma : s.bus.dma.active = false
  idle : s.cpu.cycles = 0

/-- The contents that a load takes as arguments are well-formed memories of the sizes of CHR RAM and four-screen RAM
(R59); the other operations of the host have no such argument. -/
def HostOp.Sized (op : HostOp) : Prop :=
  match op with
  | .insertCartridge _ chrRam ntExt => Memory.Inv 8192 chrRam ∧ Memory.Inv 2048 ntExt
  | .clock | .reset _ | .setController _ _ | .cpuRead _ _ | .cpuWrite _ _ | .clearFrameComplete => True

/-! ## Memory, as a statement speaks of it -/

/-- An address with memory behind it: CPU RAM, or cartridge space (R74). -/
def IsMemory (a : Word) : Prop := a.toNat < 0x2000 ∨ 0x4020 ≤ a.toNat

/-- Two addresses of the same byte of CPU RAM (R76). -/
def SameCell (a b : Word) : Prop := a.toNat < 0x2000 ∧ b.toNat < 0x2000 ∧ a.toNat % 0x800 = b.toNat % 0x800

/-- Every byte of every memory reads as before. -/
structure SameMemory (s t : State) : Prop where
  bytes : ∀ a, IsMemory a → peek a t = peek a s
  vram : t.ppu.vram = s.ppu.vram
  palette : t.ppu.palette = s.ppu.palette
  oam : t.ppu.oam = s.ppu.oam
  cart : t.cart = s.cart

/-- Of memory only the byte at `ea` may differ; and where `ea` is memory, no device is touched. -/
structure StoresOnlyAt (ea : Word) (s t : State) : Prop where
  others : ∀ a, IsMemory a → ¬SameCell a ea → peek a t = peek a s
  plain : IsMemory ea → t.ppu = s.ppu ∧ t.apu = s.apu ∧ t.cart = s.cart ∧ t.bus = { s.bus with ram := t.bus.ram }

/-- CPU RAM after pushing the bytes of a list in order, `SP` being `sp` before (R24). -/
def pushedRam : Memory → Byte → List Byte → Memory
  | m, _, [] => m
  | m, sp, v :: rest => pushedRam (Memory.write m (0x100 + sp.toNat) v) (sp - 1#8) rest

/-- The byte that the next pull reads (R24). -/
def stackTop (s : State) : Byte := Memory.read s.bus.ram (0x100 + (s.cpu.sp + 1#8).toNat)

/-- The little-endian word that two reads of memory give (R71). -/
def peekWord (a : Word) (s : State) : Word := wordOf (peek a s) (peek (a + 1#16) s)

/-! ## What an instruction's rule says -/

/-- The bytes encode the instruction and no other, whatever follows them (R113). -/
def Encodes (i : Instr) (bytes : List Byte) : Prop := encode i = bytes ∧ ∀ rest, decode (bytes ++ rest) = .ok (i, rest)

/-- The bits of `P` changed by `setNZ(v)` (R13), and no other bit. -/
structure SetsNZ (v p p' : Byte) : Prop where
  zero : flagZ p' = decide (v = 0#8)
  negative : flagN p' = v.getLsbD 7
  others : p' &&& 0x7D#8 = p &&& 0x7D#8

/-- The bits of `P` changed by a rule that writes C, and Z and N from `v`, and no other bit. -/
structure SetsCNZ (c : Bool) (v p p' : Byte) : Prop where
  carry : flagC p' = c
  zero : flagZ p' = decide (v = 0#8)
  negative : flagN p' = v.getLsbD 7
  others : p' &&& 0x7C#8 = p &&& 0x7C#8

/-- A line of a rule's table of encodings, for one operand: its bytes, its base cycles, and whether a page crossing
adds a cycle (R128). -/
structure Row (α : Type) where
  operand : α
  bytes : List Byte
  base : Nat
  plus : Bool

/-- The eight lines of `LDA ADC SBC AND ORA EOR CMP`, for operand byte `b` and operand word `{hi, lo}`. -/
def accumulatorRows (imm zp0 zpx abs abx aby izx izy b lo hi : Byte) : List (Row ReadOperand) :=
  [⟨.imm b, [imm, b], 2, false⟩, ⟨.mem (.zp0 b), [zp0, b], 3, false⟩, ⟨.mem (.zpx b), [zpx, b], 4, false⟩,
    ⟨.mem (.abs (wordOf lo hi)), [abs, lo, hi], 4, false⟩, ⟨.mem (.abx (wordOf lo hi)), [abx, lo, hi], 4, true⟩,
    ⟨.mem (.aby (wordOf lo hi)), [aby, lo, hi], 4, true⟩, ⟨.mem (.izx b), [izx, b], 6, false⟩,
    ⟨.mem (.izy b), [izy, b], 5, true⟩]

/-- The three lines of `CPX CPY`. -/
def indexCompareRows (imm zp0 abs b lo hi : Byte) : List (Row ReadOperand) :=
  [⟨.imm b, [imm, b], 2, false⟩, ⟨.mem (.zp0 b), [zp0, b], 3, false⟩,
    ⟨.mem (.abs (wordOf lo hi)), [abs, lo, hi], 4, false⟩]

/-- The four memory lines of the read-modify-write instructions. -/
def modifyRows (zp0 zpx abs abx b lo hi : Byte) : List (Row MemOperand) :=
  [⟨.zp0 b, [zp0, b], 5, false⟩, ⟨.zpx b, [zpx, b], 6, false⟩, ⟨.abs (wordOf lo hi), [abs, lo, hi], 6, false⟩,
    ⟨.abx (wordOf lo hi), [abx, lo, hi], 7, false⟩]

/-- An instruction that reads an operand and writes only CPU registers. For every line of its table and every state: its
encoding; it completes; the registers are those that `effect` gives from the operand's value; the cycle count; the
rest of the machine is as the operand read leaves it, no byte of memory changed. `form` says what is read: the operand
itself, or for `BIT`, which has memory forms only, the byte at it. -/
def ReadingInstr {α : Type} (form : α → ReadOperand) (f : α → Instr) (rows : List (Row α))
    (effect : Byte → Cpu → Cpu → Prop) : Prop :=
  ∀ r ∈ rows,
    Encodes (f r.operand) r.bytes ∧
      ∀ s : State,
        let o := loadOperand (form r.operand) s
        ∃ c,
          effect o.value s.cpu c ∧
            exec (f r.operand) s =
                .next { o.st with cpu := { c with cycles := r.base + if r.plus && o.crossed then 1 else 0 } } ∧
              SameMemory s o.st

/-- A store of a CPU register. For every line of its table and every state: its encoding; it completes; one CPU write of
the register at the effective address; the cycle count; nothing else changed. -/
def StoreInstr (f : MemOperand → Instr) (rows : List (Row MemOperand)) (value : Cpu → Byte) : Prop :=
  ∀ r ∈ rows,
    Encodes (f r.operand) r.bytes ∧
      ∀ s : State,
        ∃ t,
          exec (f r.operand) s = .next t ∧
            t =
                { cpuWrite (resolve r.operand s).ea (value s.cpu) (resolve r.operand s).st with
                  cpu := { s.cpu with cycles := r.base } } ∧
              StoresOnlyAt (resolve r.operand s).ea s t

/-- A read-modify-write instruction in memory. For every line of its table and every state: its encoding; it completes;
one CPU read of the effective address, then one CPU write of the result there; the status that `effect` relates to the
byte read and the old status; the cycle count; nothing else changed. -/
def ModifyInstr (f : MemOperand → Instr) (rows : List (Row MemOperand)) (effect : Byte → Byte → Byte → Byte → Prop) :
    Prop :=
  ∀ r ∈ rows,
    Encodes (f r.operand) r.bytes ∧
      ∀ s : State,
        ∃ v p t,
          effect (memRead (resolve r.operand s).ea (resolve r.operand s).st).1 s.cpu.p v p ∧
            exec (f r.operand) s = .next t ∧
              t =
                  { cpuWrite (resolve r.operand s).ea v (memRead (resolve r.operand s).ea (resolve r.operand s).st).2 with
                    cpu := { s.cpu with p := p, cycles := r.base } } ∧
                StoresOnlyAt (resolve r.operand s).ea s t

/-- A one-byte instruction that works on CPU registers only. Its encoding; for every state it completes, with the
registers that `effect` gives and this cycle count, and nothing else of the machine changed. -/
def RegisterInstr (i : Instr) (op : Byte) (n : Nat) (effect : Cpu → Cpu → Prop) : Prop :=
  Encodes i [op] ∧ ∀ s : State, ∃ c, effect s.cpu c ∧ exec i s = .next { s with cpu := { c with cycles := n } }

/-- A conditional branch (R213). Its encoding; for every state it completes: not taken, nothing but the cycle count
changes; taken, `PC` moves by the signed offset, at one cycle more, or two where the page of the target is not that of
the next instruction. -/
def BranchInstr (f : Byte → Instr) (op : Byte) (condition : Byte → Bool) : Prop :=
  ∀ off : Byte,
    Encodes (f off) [op, off] ∧
      ∀ s : State,
        exec (f off) s =
          .next
            (if condition s.cpu.p = true then
              { s with
                cpu :=
                  { s.cpu with
                    pc := s.cpu.pc + BitVec.ofInt 16 off.toInt
                    cycles :=
                      if (s.cpu.pc + BitVec.ofInt 16 off.toInt).toNat / 256 = s.cpu.pc.toNat / 256 then 3 else 4 } }
            else { s with cpu := { s.cpu with cycles := 2 } })

/-- The undocumented opcodes 0x00 to 0x3F of the opcode map, with their base cycles (R111, R251). -/
def undocumentedRows0 : List (Instr × Nat × Nat) :=
  [(.und02, 0x02, 2), (.und03, 0x03, 8), (.und04, 0x04, 3), (.und07, 0x07, 5), (.und0B, 0x0B, 2),
    (.und0C, 0x0C, 4), (.und0F, 0x0F, 6), (.und12, 0x12, 2), (.und13, 0x13, 8), (.und14, 0x14, 4),
    (.und17, 0x17, 6), (.und1A, 0x1A, 2), (.und1B, 0x1B, 7), (.und1C, 0x1C, 4), (.und1F, 0x1F, 7),
    (.und22, 0x22, 2), (.und23, 0x23, 8), (.und27, 0x27, 5), (.und2B, 0x2B, 2), (.und2F, 0x2F, 6),
    (.und32, 0x32, 2), (.und33, 0x33, 8), (.und34, 0x34, 4), (.und37, 0x37, 6), (.und3A, 0x3A, 2),
    (.und3B, 0x3B, 7), (.und3C, 0x3C, 4), (.und3F, 0x3F, 7)]

/-- The undocumented opcodes 0x40 to 0x7F of the opcode map, with their base cycles (R111, R251). -/
def undocumentedRows1 : List (Instr × Nat × Nat) :=
  [(.und42, 0x42, 2), (.und43, 0x43, 8), (.und44, 0x44, 3), (.und47, 0x47, 5), (.und4B, 0x4B, 2),
    (.und4F, 0x4F, 6), (.und52, 0x52, 2), (.und53, 0x53, 8), (.und54, 0x54, 4), (.und57, 0x57, 6),
    (.und5A, 0x5A, 2), (.und5B, 0x5B, 7), (.und5C, 0x5C, 4), (.und5F, 0x5F, 7), (.und62, 0x62, 2),
    (.und63, 0x63, 8), (.und64, 0x64, 3), (.und67, 0x67, 5), (.und6B, 0x6B, 2), (.und6F, 0x6F, 6),
    (.und72, 0x72, 2), (.und73, 0x73, 8), (.und74, 0x74, 4), (.und77, 0x77, 6), (.und7A, 0x7A, 2),
    (.und7B, 0x7B, 7), (.und7C, 0x7C, 4), (.und7F, 0x7F, 7)]

/-- The undocumented opcodes 0x80 to 0xBF of the opcode map, with their base cycles (R111, R251). -/
def undocumentedRows2 : List (Instr × Nat × Nat) :=
  [(.und80, 0x80, 2), (.und82, 0x82, 2), (.und83, 0x83, 6), (.und87, 0x87, 3), (.und89, 0x89, 2),
    (.und8B, 0x8B, 2), (.und8F, 0x8F, 4), (.und92, 0x92, 2), (.und93, 0x93, 6), (.und97, 0x97, 4),
    (.und9B, 0x9B, 5), (.und9C, 0x9C, 5), (.und9E, 0x9E, 5), (.und9F, 0x9F, 5), (.undA3, 0xA3, 6),
    (.undA7, 0xA7, 3), (.undAB, 0xAB, 2), (.undAF, 0xAF, 4), (.undB2, 0xB2, 2), (.undB3, 0xB3, 5),
    (.undB7, 0xB7, 4), (.undBB, 0xBB, 4), (.undBF, 0xBF, 4)]

/-- The undocumented opcodes 0xC0 to 0xFF of the opcode map, with their base cycles (R111, R251). -/
def undocumentedRows3 : List (Instr × Nat × Nat) :=
  [(.undC2, 0xC2, 2), (.undC3, 0xC3, 8), (.undC7, 0xC7, 5), (.undCB, 0xCB, 2), (.undCF, 0xCF, 6),
    (.undD2, 0xD2, 2), (.undD3, 0xD3, 8), (.undD4, 0xD4, 4), (.undD7, 0xD7, 6), (.undDA, 0xDA, 2),
    (.undDB, 0xDB, 7), (.undDC, 0xDC, 4), (.undDF, 0xDF, 7), (.undE2, 0xE2, 2), (.undE3, 0xE3, 8),
    (.undE7, 0xE7, 5), (.undEB, 0xEB, 2), (.undEF, 0xEF, 6), (.undF2, 0xF2, 2), (.undF3, 0xF3, 8),
    (.undF4, 0xF4, 4), (.undF7, 0xF7, 6), (.undFA, 0xFA, 2), (.undFB, 0xFB, 7), (.undFC, 0xFC, 4),
    (.undFF, 0xFF, 7)]

/-- `NOP` (R241) and the 105 undocumented opcodes, each with its opcode and its base cycles. -/
def noOperations : List (Instr × Nat × Nat) :=
  (Instr.nop, 0xEA, 2) :: undocumentedRows0 ++ undocumentedRows1 ++ undocumentedRows2 ++ undocumentedRows3

/-- The entry of an interrupt (R304, R306): three bytes pushed, `PC` from the vector, the status register `p`, the cycle
count, and nothing else changed. -/
def Enters (s t : State) (ret : Word) (status p : Byte) (vector : Word) (n : Nat) : Prop :=
  t =
    { s with
      cpu := { s.cpu with sp := s.cpu.sp - 3#8, pc := peekWord vector s, p := p, cycles := n }
      bus := { s.bus with ram := pushedRam s.bus.ram s.cpu.sp [hiByte ret, loByte ret, status] } }

/-! ## Runs of the machine -/

/-- The state after `n` steps. -/
def stepN : Nat → State → Host.Outcome State Fault Refusal
  | 0, s => .next s
  | n + 1, s =>
    match step s with
    | .next t => stepN n t
    | .fault e => .fault e
    | .refused e => .refused e

/-- The state after `n` CPU slots of the DMA engine alone, the clock moving on by the three dots of a slot (R351). -/
def dmaSlots : Nat → State → State
  | 0, s => s
  | n + 1, s => dmaSlots n (countDot (countDot (countDot (dmaStep s))))

/-- The state after `n` CPU reads of an address. -/
def readTimes (a : Word) : Nat → State → State
  | 0, s => s
  | n + 1, s => readTimes a n (cpuRead a false s).2

/-- How many of the next `n` steps complete an audio sample (R365). -/
def samplesIn : Nat → State → Nat
  | 0, _ => 0
  | n + 1, s =>
    (if sampleReady s then 1 else 0) +
      match step s with
      | .next t => samplesIn n t
      | .fault _ | .refused _ => 0

/-- The number of the current dot within the frame, from (−1, 0) on (R401). -/
def dotIndex (p : Ppu) : Nat := (p.scanline + 1).toNat * 341 + p.cycle

/-- The OAM entries in range for scanline `s`, in OAM order (R426). -/
def visibleSprites (oam : Memory) (s h : Nat) : List Nat :=
  (List.range 64).filter fun n => decide (0 ≤ (s : Int) - (Memory.read oam (4 * n)).toNat) &&
    decide ((s : Int) - (Memory.read oam (4 * n)).toNat < h)

end Sys2Proof.Machine
end

