-- ==== Sys2Proof/Certificates/Slice0/Obligations.lean ====
section
/-! DEFINITION. The statements for the provers. Each docstring names the rules of the spec that the statement formalises;
the vocabulary is in Safety.lean. -/

open Sys2Proof Sys2Proof.Machine

/-! ## Encoding -/

/-- Decoding the encoding of a well-formed instruction gives the instruction back, whatever bytes follow, with every
operand at every value (30_encoding.md, sections 1 and 2). -/
def Obligations.DecodeOfEncode : Prop :=
  ∀ (i : Instr) (rest : List Byte), i.wf = true → decode (encode i ++ rest) = .ok (i, rest)

/-- Every byte string that decodes is the encoding of the well-formed instruction it decodes to, followed by the rest: no
bit of an instruction is ignored and no two byte strings are one instruction (30_encoding.md, sections 1 and 2). -/
def Obligations.EncodeOfDecode : Prop :=
  ∀ (bytes rest : List Byte) (i : Instr), decode bytes = .ok (i, rest) → i.wf = true ∧ encode i ++ rest = bytes

/-- No encoding is illegal (R130): any three bytes begin with an instruction, of one, two or three bytes, and the opcode
alone decides how many (R113). -/
def Obligations.EveryOpcodeDecodes : Prop :=
  ∀ op : Byte,
    1 ≤ opcodeLength op ∧ opcodeLength op ≤ 3 ∧
      ∀ b1 b2 : Byte, ∃ i, i.wf = true ∧ decode [op, b1, b2] = .ok (i, [b1, b2].drop (opcodeLength op - 1))

/-- A few words written out from the opcode map, one for each family and operand form. -/
def Obligations.WrittenWordsDecode : Prop :=
  decode [0xA9#8, 0x10#8] = .ok (.lda (.imm 0x10#8), []) ∧
    decode [0xBD#8, 0x34#8, 0x12#8] = .ok (.lda (.mem (.abx 0x1234#16)), []) ∧
      decode [0xB6#8, 0xF0#8] = .ok (.ldx (.mem (.zpy 0xF0#8)), []) ∧
        decode [0x91#8, 0x10#8] = .ok (.sta (.izy 0x10#8), []) ∧
          decode [0x61#8, 0x20#8] = .ok (.adc (.mem (.izx 0x20#8)), []) ∧
            decode [0x7E#8, 0x00#8, 0x03#8] = .ok (.ror (.mem (.abx 0x0300#16)), []) ∧
              decode [0x0A#8] = .ok (.asl .acc, []) ∧
                decode [0x6C#8, 0xFF#8, 0x02#8] = .ok (.jmp (.ind 0x02FF#16), []) ∧
                  decode [0xD0#8, 0xFB#8] = .ok (.bne 0xFB#8, []) ∧
                    decode [0x00#8] = .ok (.brk, []) ∧ decode [0xEB#8, 0x01#8] = .ok (.undEB, [0x01#8])

/-! ## The instruction step and the master clock -/

/-- A step runs the decoded instruction. At a fetch, where the bytes at `PC` lie in memory and decode to an instruction, the
step is one PPU dot, then `exec` of that instruction with `PC` past it, then the counting of the CPU cycle and the rest of
`Bus.clock()` (R110, R350). That the operand bytes are read right after the opcode is the model's reading (log 5). -/
def Obligations.StepRunsDecodedInstruction : Prop :=
  ∀ (s : State) (i : Instr) (bytes : List Byte),
    s.atFetch →
      decode bytes = .ok (i, []) →
        (∀ k v, bytes[k]? = some v → IsMemory (s.cpu.pc + BitVec.ofNat 16 k) ∧ peek (s.cpu.pc + BitVec.ofNat 16 k) s = v) →
          ∃ t,
            exec i (setPC (s.cpu.pc + BitVec.ofNat 16 bytes.length) (ppuTick s)) = .next t ∧
              step s = .next (afterSlot (countCycle t))

/-- The fetch at any `PC`, device registers included (R81, R112): the opcode is read once, then each operand byte of the
instruction's length once, in order, `PC` moves past them, and the step runs the instruction they decode to. That the
operand bytes are read right after the opcode is the model's reading (log 5). -/
def Obligations.FetchReadsTheInstruction : Prop :=
  ∀ s : State,
    let f := fetchInstr s
    let op := memRead s.cpu.pc s
    let b1 := memRead (s.cpu.pc + 1#16) op.2
    let b2 := memRead (s.cpu.pc + 2#16) b1.2
    ((opcodeLength op.1 = 1 ∧ decode [op.1] = .ok (f.instr, []) ∧ f.st = setPC (s.cpu.pc + 1#16) op.2) ∨
        (opcodeLength op.1 = 2 ∧ decode [op.1, b1.1] = .ok (f.instr, []) ∧ f.st = setPC (s.cpu.pc + 2#16) b1.2) ∨
          (opcodeLength op.1 = 3 ∧ decode [op.1, b1.1, b2.1] = .ok (f.instr, []) ∧
            f.st = setPC (s.cpu.pc + 3#16) b2.2)) ∧
      (s.atFetch →
        ∃ t,
          exec (fetchInstr (ppuTick s)).instr (fetchInstr (ppuTick s)).st = .next t ∧
            step s = .next (afterSlot (countCycle t)))

/-- `Bus.clock()` away from a fetch (R110, R350, R351, R360): off the CPU slot only the PPU's dot and what follows the
slot happen; on the slot, the DMA engine steps while it is active; else a CPU with cycles left only counts one down. What
follows the slot is the APU's tick, the delivery of an NMI, the sample divider (R365) and the count of the dot. -/
def Obligations.ClockWithoutFetch : Prop :=
  ∀ s : State,
    (s.bus.sysClock % 3 ≠ 0 → step s = .next (afterSlot (ppuTick s))) ∧
      (s.bus.sysClock % 3 = 0 → s.bus.dma.active = true → step s = .next (afterSlot (dmaStep (ppuTick s)))) ∧
        (s.bus.sysClock % 3 = 0 → s.bus.dma.active = false → 0 < s.cpu.cycles →
          step s =
            .next
              (afterSlot
                { ppuTick s with
                  cpu := { s.cpu with cycles := s.cpu.cycles - 1, clockCount := s.cpu.clockCount + 1 } })) ∧
          (s.ppu.nmiOut = false →
            let acc := s.bus.sampleAcc + Config.sampleRateHz
            afterSlot s =
              { s with
                apu := s.apu.clock
                bus :=
                  { s.bus with
                    sysClock := s.bus.sysClock + 1
                    sampleAcc := if acc < 5369318 then acc else acc - 5369318
                    audioSample := if acc < 5369318 then s.bus.audioSample else s.apu.clock.mix } })

/-- Three Bus clocks are one CPU cycle and three dots (R351): from any state of the invariant, three steps complete; the
CPU's cycle counter advances by 1, or by 0 during an OAM DMA (R352); the dot by 3, modulo the frame. -/
def Obligations.ThreeClocksOneCpuCycle : Prop :=
  ∀ s : State,
    s.Inv →
      ∃ t,
        stepN 3 s = .next t ∧
          t.cpu.clockCount = s.cpu.clockCount + (if s.bus.dma.active then 0 else 1) ∧
            t.bus.sysClock = s.bus.sysClock + 3 ∧ dotIndex t.ppu = (dotIndex s.ppu + 3) % 89342

/-- Nothing stops the machine: every instruction completes in every state, and so does every step (R300). That a term
whose operand form its mnemonic does not have completes too is the model's choice (log 19): such a term has no encoding and
no step runs it. -/
def Obligations.NothingStops : Prop :=
  (∀ (i : Instr) (s : State), ∃ t, exec i s = .next t) ∧ ∀ s : State, ∃ t, step s = .next t

/-! ## Addressing modes and operands -/

/-- The effective address of every memory form, and when it reports a page crossing (R118 to R120, R122 to R124, R126,
R127); the pointer reads, in the zero page, change nothing. -/
def Obligations.EffectiveAddresses : Prop :=
  ∀ (b : Byte) (w : Word) (s : State),
    let pointerX := wordOf (peek ((b + s.cpu.x).setWidth 16) s) (peek ((b + s.cpu.x + 1#8).setWidth 16) s)
    let pointer := wordOf (peek (b.setWidth 16) s) (peek ((b + 1#8).setWidth 16) s)
    let plus (base : Word) (index : Byte) : Resolved :=
      ⟨base + index.setWidth 16, decide ((base + index.setWidth 16).toNat / 256 ≠ base.toNat / 256), s⟩
    resolve (.zp0 b) s = ⟨b.setWidth 16, false, s⟩ ∧
      resolve (.zpx b) s = ⟨(b + s.cpu.x).setWidth 16, false, s⟩ ∧
        resolve (.zpy b) s = ⟨(b + s.cpu.y).setWidth 16, false, s⟩ ∧
          resolve (.abs w) s = ⟨w, false, s⟩ ∧
            resolve (.abx w) s = plus w s.cpu.x ∧
              resolve (.aby w) s = plus w s.cpu.y ∧
                resolve (.izx b) s = ⟨pointerX, false, s⟩ ∧ resolve (.izy b) s = plus pointer s.cpu.y

/-- The operand of a reading instruction: the immediate byte (R117), or one CPU read of the effective address (R72); no CPU
register changes, no byte of memory changes, and where the effective address is memory nothing at all changes. That the
immediate byte takes no access here is the model's reading (log 5): its one read has been made by the fetch. -/
def Obligations.OperandReads : Prop :=
  (∀ (v : Byte) (s : State), loadOperand (.imm v) s = ⟨v, false, s⟩) ∧
    ∀ (m : MemOperand) (s : State),
      loadOperand (.mem m) s =
          ⟨(memRead (resolve m s).ea s).1, (resolve m s).crossed, (memRead (resolve m s).ea s).2⟩ ∧
        (loadOperand (.mem m) s).value = peek (resolve m s).ea s ∧
          (loadOperand (.mem m) s).st.cpu = s.cpu ∧
            SameMemory s (loadOperand (.mem m) s).st ∧
              (IsMemory (resolve m s).ea → (loadOperand (.mem m) s).st = s)

/-! ## Load, store, transfer -/

/-- `LDA`, `LDX`, `LDY` (R150 to R152). -/
def Obligations.LoadResults : Prop :=
  ∀ b lo hi : Byte,
    ReadingInstr id .lda (accumulatorRows 0xA9#8 0xA5#8 0xB5#8 0xAD#8 0xBD#8 0xB9#8 0xA1#8 0xB1#8 b lo hi)
        (fun m c c' => ∃ p, SetsNZ m c.p p ∧ c' = { c with a := m, p := p }) ∧
      ReadingInstr id .ldx
          [⟨.imm b, [0xA2#8, b], 2, false⟩, ⟨.mem (.zp0 b), [0xA6#8, b], 3, false⟩,
            ⟨.mem (.zpy b), [0xB6#8, b], 4, false⟩, ⟨.mem (.abs (wordOf lo hi)), [0xAE#8, lo, hi], 4, false⟩,
            ⟨.mem (.aby (wordOf lo hi)), [0xBE#8, lo, hi], 4, true⟩]
          (fun m c c' => ∃ p, SetsNZ m c.p p ∧ c' = { c with x := m, p := p }) ∧
        ReadingInstr id .ldy
          [⟨.imm b, [0xA0#8, b], 2, false⟩, ⟨.mem (.zp0 b), [0xA4#8, b], 3, false⟩,
            ⟨.mem (.zpx b), [0xB4#8, b], 4, false⟩, ⟨.mem (.abs (wordOf lo hi)), [0xAC#8, lo, hi], 4, false⟩,
            ⟨.mem (.abx (wordOf lo hi)), [0xBC#8, lo, hi], 4, true⟩]
          (fun m c c' => ∃ p, SetsNZ m c.p p ∧ c' = { c with y := m, p := p })

/-- `STA`, `STX`, `STY` (R153 to R155). -/
def Obligations.StoreResults : Prop :=
  ∀ b lo hi : Byte,
    StoreInstr .sta
        [⟨.zp0 b, [0x85#8, b], 3, false⟩, ⟨.zpx b, [0x95#8, b], 4, false⟩,
          ⟨.abs (wordOf lo hi), [0x8D#8, lo, hi], 4, false⟩, ⟨.abx (wordOf lo hi), [0x9D#8, lo, hi], 5, false⟩,
          ⟨.aby (wordOf lo hi), [0x99#8, lo, hi], 5, false⟩, ⟨.izx b, [0x81#8, b], 6, false⟩,
          ⟨.izy b, [0x91#8, b], 6, false⟩]
        Cpu.a ∧
      StoreInstr .stx
          [⟨.zp0 b, [0x86#8, b], 3, false⟩, ⟨.zpy b, [0x96#8, b], 4, false⟩,
            ⟨.abs (wordOf lo hi), [0x8E#8, lo, hi], 4, false⟩]
          Cpu.x ∧
        StoreInstr .sty
          [⟨.zp0 b, [0x84#8, b], 3, false⟩, ⟨.zpx b, [0x94#8, b], 4, false⟩,
            ⟨.abs (wordOf lo hi), [0x8C#8, lo, hi], 4, false⟩]
          Cpu.y

/-- The six transfers (R156 to R161); `TXS` alone writes no flag. -/
def Obligations.TransferResults : Prop :=
  RegisterInstr .tax 0xAA#8 2 (fun c c' => ∃ p, SetsNZ c.a c.p p ∧ c' = { c with x := c.a, p := p }) ∧
    RegisterInstr .tay 0xA8#8 2 (fun c c' => ∃ p, SetsNZ c.a c.p p ∧ c' = { c with y := c.a, p := p }) ∧
      RegisterInstr .txa 0x8A#8 2 (fun c c' => ∃ p, SetsNZ c.x c.p p ∧ c' = { c with a := c.x, p := p }) ∧
        RegisterInstr .tya 0x98#8 2 (fun c c' => ∃ p, SetsNZ c.y c.p p ∧ c' = { c with a := c.y, p := p }) ∧
          RegisterInstr .tsx 0xBA#8 2 (fun c c' => ∃ p, SetsNZ c.sp c.p p ∧ c' = { c with x := c.sp, p := p }) ∧
            RegisterInstr .txs 0x9A#8 2 (fun c c' => c' = { c with sp := c.x })

/-! ## Arithmetic, logic, compare -/

/-- `ADC` (R170): the sum is an exact integer, binary whatever `P.D` holds; V is set exactly when operands of one sign
give a result of the other. -/
def Obligations.AddWithCarryResult : Prop :=
  ∀ b lo hi : Byte,
    ReadingInstr id .adc (accumulatorRows 0x69#8 0x65#8 0x75#8 0x6D#8 0x7D#8 0x79#8 0x61#8 0x71#8 b lo hi) fun m c c' =>
      ∃ (sum : Nat) (r p : Byte),
        sum = c.a.toNat + m.toNat + (if flagC c.p then 1 else 0) ∧
          r = BitVec.ofNat 8 sum ∧
            c' = { c with a := r, p := p } ∧
              flagC p = decide (0xFF < sum) ∧
                flagV p = (c.a.msb == m.msb && r.msb != c.a.msb) ∧
                  flagZ p = decide (r = 0#8) ∧ flagN p = r.msb ∧ p &&& 0x3C#8 = c.p &&& 0x3C#8

/-- `SBC` (R171): `A − M − (1 − C)`, C set when there is no borrow, V when the exact signed difference does not fit. -/
def Obligations.SubtractWithBorrowResult : Prop :=
  ∀ b lo hi : Byte,
    ReadingInstr id .sbc (accumulatorRows 0xE9#8 0xE5#8 0xF5#8 0xED#8 0xFD#8 0xF9#8 0xE1#8 0xF1#8 b lo hi) fun m c c' =>
      ∃ (borrow : Nat) (r p : Byte),
        borrow = (if flagC c.p then 0 else 1) ∧
          r = BitVec.ofInt 8 ((c.a.toNat : Int) - m.toNat - borrow) ∧
            c' = { c with a := r, p := p } ∧
              flagC p = decide (m.toNat + borrow ≤ c.a.toNat) ∧
                flagV p = (c.a.msb != m.msb && r.msb != c.a.msb) ∧
                  flagZ p = decide (r = 0#8) ∧ flagN p = r.msb ∧ p &&& 0x3C#8 = c.p &&& 0x3C#8

/-- `AND`, `ORA`, `EOR` (R172 to R174). -/
def Obligations.LogicResults : Prop :=
  ∀ b lo hi : Byte,
    ReadingInstr id .and (accumulatorRows 0x29#8 0x25#8 0x35#8 0x2D#8 0x3D#8 0x39#8 0x21#8 0x31#8 b lo hi)
        (fun m c c' => ∃ p, SetsNZ (c.a &&& m) c.p p ∧ c' = { c with a := c.a &&& m, p := p }) ∧
      ReadingInstr id .ora (accumulatorRows 0x09#8 0x05#8 0x15#8 0x0D#8 0x1D#8 0x19#8 0x01#8 0x11#8 b lo hi)
          (fun m c c' => ∃ p, SetsNZ (c.a ||| m) c.p p ∧ c' = { c with a := c.a ||| m, p := p }) ∧
        ReadingInstr id .eor (accumulatorRows 0x49#8 0x45#8 0x55#8 0x4D#8 0x5D#8 0x59#8 0x41#8 0x51#8 b lo hi)
          (fun m c c' => ∃ p, SetsNZ (c.a ^^^ m) c.p p ∧ c' = { c with a := c.a ^^^ m, p := p })

/-- `BIT` (R175): Z from `A & M`, N and V from `M` itself. `CMP`, `CPX`, `CPY` (R176 to R178): C is the unsigned comparison,
Z and N are of the wrapped difference. -/
def Obligations.CompareResults : Prop :=
  ∀ b lo hi : Byte,
    (ReadingInstr .mem .bit
        [⟨.zp0 b, [0x24#8, b], 3, false⟩, ⟨.abs (wordOf lo hi), [0x2C#8, lo, hi], 4, false⟩] fun m c c' =>
        ∃ p,
          c' = { c with p := p } ∧
            flagZ p = decide (c.a &&& m = 0#8) ∧
              flagN p = m.getLsbD 7 ∧ flagV p = m.getLsbD 6 ∧ p &&& 0x3D#8 = c.p &&& 0x3D#8) ∧
    ReadingInstr id .cmp (accumulatorRows 0xC9#8 0xC5#8 0xD5#8 0xCD#8 0xDD#8 0xD9#8 0xC1#8 0xD1#8 b lo hi)
        (fun m c c' => ∃ p, SetsCNZ (decide (m ≤ c.a)) (c.a - m) c.p p ∧ c' = { c with p := p }) ∧
      ReadingInstr id .cpx (indexCompareRows 0xE0#8 0xE4#8 0xEC#8 b lo hi)
          (fun m c c' => ∃ p, SetsCNZ (decide (m ≤ c.x)) (c.x - m) c.p p ∧ c' = { c with p := p }) ∧
        ReadingInstr id .cpy (indexCompareRows 0xC0#8 0xC4#8 0xCC#8 b lo hi)
          (fun m c c' => ∃ p, SetsCNZ (decide (m ≤ c.y)) (c.y - m) c.p p ∧ c' = { c with p := p })

/-! ## Shift, increment, decrement -/

/-- `ASL`, `LSR`, `ROL`, `ROR` (R190 to R193), of `A` and of a byte in memory; a rotation is of nine bits, through the old
carry. -/
def Obligations.ShiftResults : Prop :=
  let left (m p : Byte) : Byte := BitVec.ofNat 8 (m.toNat * 2 + if flagC p then 1 else 0)
  let right (m p : Byte) : Byte := BitVec.ofNat 8 (m.toNat / 2 + if flagC p then 128 else 0)
  RegisterInstr (.asl .acc) 0x0A#8 2
      (fun c c' => ∃ p, SetsCNZ (c.a.getLsbD 7) (c.a <<< 1) c.p p ∧ c' = { c with a := c.a <<< 1, p := p }) ∧
    RegisterInstr (.lsr .acc) 0x4A#8 2
        (fun c c' => ∃ p, SetsCNZ (c.a.getLsbD 0) (c.a >>> 1) c.p p ∧ c' = { c with a := c.a >>> 1, p := p }) ∧
      RegisterInstr (.rol .acc) 0x2A#8 2
          (fun c c' => ∃ p, SetsCNZ (c.a.getLsbD 7) (left c.a c.p) c.p p ∧ c' = { c with a := left c.a c.p, p := p }) ∧
        RegisterInstr (.ror .acc) 0x6A#8 2
            (fun c c' =>
              ∃ p, SetsCNZ (c.a.getLsbD 0) (right c.a c.p) c.p p ∧ c' = { c with a := right c.a c.p, p := p }) ∧
          ∀ b lo hi : Byte,
            ModifyInstr (fun m => .asl (.mem m)) (modifyRows 0x06#8 0x16#8 0x0E#8 0x1E#8 b lo hi)
                (fun m p v p' => v = m <<< 1 ∧ SetsCNZ (m.getLsbD 7) v p p') ∧
              ModifyInstr (fun m => .lsr (.mem m)) (modifyRows 0x46#8 0x56#8 0x4E#8 0x5E#8 b lo hi)
                  (fun m p v p' => v = m >>> 1 ∧ SetsCNZ (m.getLsbD 0) v p p') ∧
                ModifyInstr (fun m => .rol (.mem m)) (modifyRows 0x26#8 0x36#8 0x2E#8 0x3E#8 b lo hi)
                    (fun m p v p' => v = left m p ∧ SetsCNZ (m.getLsbD 7) v p p') ∧
                  ModifyInstr (fun m => .ror (.mem m)) (modifyRows 0x66#8 0x76#8 0x6E#8 0x7E#8 b lo hi)
                    (fun m p v p' => v = right m p ∧ SetsCNZ (m.getLsbD 0) v p p')

/-- `INC`, `DEC`, `INX`, `INY`, `DEX`, `DEY` (R194 to R199): they wrap, and touch neither C nor V. -/
def Obligations.CountResults : Prop :=
  (∀ b lo hi : Byte,
      ModifyInstr .inc (modifyRows 0xE6#8 0xF6#8 0xEE#8 0xFE#8 b lo hi) (fun m p v p' => v = m + 1#8 ∧ SetsNZ v p p') ∧
        ModifyInstr .dec (modifyRows 0xC6#8 0xD6#8 0xCE#8 0xDE#8 b lo hi)
          (fun m p v p' => v = m - 1#8 ∧ SetsNZ v p p')) ∧
    RegisterInstr .inx 0xE8#8 2 (fun c c' => ∃ p, SetsNZ (c.x + 1#8) c.p p ∧ c' = { c with x := c.x + 1#8, p := p }) ∧
      RegisterInstr .iny 0xC8#8 2 (fun c c' => ∃ p, SetsNZ (c.y + 1#8) c.p p ∧ c' = { c with y := c.y + 1#8, p := p }) ∧
        RegisterInstr .dex 0xCA#8 2
            (fun c c' => ∃ p, SetsNZ (c.x - 1#8) c.p p ∧ c' = { c with x := c.x - 1#8, p := p }) ∧
          RegisterInstr .dey 0x88#8 2
            (fun c c' => ∃ p, SetsNZ (c.y - 1#8) c.p p ∧ c' = { c with y := c.y - 1#8, p := p })


/-! ## Control transfer -/

/-- `JMP` (R210): the word itself, or the word that two reads in order give, the second in the SAME page as the first
(R125). -/
def Obligations.JumpResults : Prop :=
  ∀ (lo hi : Byte) (s : State),
    let w := wordOf lo hi
    let l := memRead w s
    let h := memRead ((w &&& 0xFF00#16) ||| ((w + 1#16) &&& 0x00FF#16)) l.2
    (Encodes (.jmp (.abs w)) [0x4C#8, lo, hi] ∧
        exec (.jmp (.abs w)) s = .next { s with cpu := { s.cpu with pc := w, cycles := 3 } }) ∧
      Encodes (.jmp (.ind w)) [0x6C#8, lo, hi] ∧
        exec (.jmp (.ind w)) s = .next { h.2 with cpu := { s.cpu with pc := wordOf l.1 h.1, cycles := 5 } } ∧
          SameMemory s h.2

/-- `JSR` and `RTS` (R211, R212): the address of the instruction's last byte is pushed, high byte first; the return pulls
it, low byte first, and adds 1. -/
def Obligations.SubroutineResults : Prop :=
  (∀ (lo hi : Byte) (s : State),
      Encodes (.jsr (wordOf lo hi)) [0x20#8, lo, hi] ∧
        exec (.jsr (wordOf lo hi)) s =
          .next
            { s with
              cpu := { s.cpu with pc := wordOf lo hi, sp := s.cpu.sp - 2#8, cycles := 6 }
              bus :=
                { s.bus with
                  ram := pushedRam s.bus.ram s.cpu.sp [hiByte (s.cpu.pc - 1#16), loByte (s.cpu.pc - 1#16)] } }) ∧
    ∀ s : State,
      let lo := stackTop s
      let hi := stackTop (setSP (s.cpu.sp + 1#8) s)
      Encodes .rts [0x60#8] ∧
        exec .rts s =
          .next { s with cpu := { s.cpu with pc := wordOf lo hi + 1#16, sp := s.cpu.sp + 2#8, cycles := 6 } }

/-- The eight branches (R213 to R221). -/
def Obligations.BranchResults : Prop :=
  BranchInstr .bcc 0x90#8 (fun p => !p.getLsbD 0) ∧
    BranchInstr .bcs 0xB0#8 (fun p => p.getLsbD 0) ∧
      BranchInstr .beq 0xF0#8 (fun p => p.getLsbD 1) ∧
        BranchInstr .bne 0xD0#8 (fun p => !p.getLsbD 1) ∧
          BranchInstr .bmi 0x30#8 (fun p => p.getLsbD 7) ∧
            BranchInstr .bpl 0x10#8 (fun p => !p.getLsbD 7) ∧
              BranchInstr .bvc 0x50#8 (fun p => !p.getLsbD 6) ∧ BranchInstr .bvs 0x70#8 (fun p => p.getLsbD 6)

/-! ## Stack, flags, system -/

/-- `PHA`, `PLA`, `PHP`, `PLP` (R230 to R233): the pushed status has B and U set, and bits 4 and 5 of a pulled one are
ignored. -/
def Obligations.StackResults : Prop :=
  (Encodes .pha [0x48#8] ∧ Encodes .pla [0x68#8] ∧ Encodes .php [0x08#8] ∧ Encodes .plp [0x28#8]) ∧
    ∀ s : State,
      exec .pha s =
          .next
            { s with
              cpu := { s.cpu with sp := s.cpu.sp - 1#8, cycles := 3 }
              bus := { s.bus with ram := pushedRam s.bus.ram s.cpu.sp [s.cpu.a] } } ∧
        (∃ p,
            SetsNZ (stackTop s) s.cpu.p p ∧
              exec .pla s =
                .next { s with cpu := { s.cpu with a := stackTop s, p := p, sp := s.cpu.sp + 1#8, cycles := 4 } }) ∧
          exec .php s =
              .next
                { s with
                  cpu := { s.cpu with sp := s.cpu.sp - 1#8, cycles := 3 }
                  bus := { s.bus with ram := pushedRam s.bus.ram s.cpu.sp [s.cpu.p ||| 0x30#8] } } ∧
            exec .plp s =
              .next
                { s with
                  cpu := { s.cpu with p := (stackTop s &&& 0xCF#8) ||| 0x20#8, sp := s.cpu.sp + 1#8, cycles := 4 } }

/-- The seven flag instructions (R234 to R240): one bit of `P`, and nothing else. -/
def Obligations.FlagResults : Prop :=
  RegisterInstr .clc 0x18#8 2 (fun c c' => c' = { c with p := c.p &&& 0xFE#8 }) ∧
    RegisterInstr .sec 0x38#8 2 (fun c c' => c' = { c with p := c.p ||| 0x01#8 }) ∧
      RegisterInstr .cli 0x58#8 2 (fun c c' => c' = { c with p := c.p &&& 0xFB#8 }) ∧
        RegisterInstr .sei 0x78#8 2 (fun c c' => c' = { c with p := c.p ||| 0x04#8 }) ∧
          RegisterInstr .cld 0xD8#8 2 (fun c c' => c' = { c with p := c.p &&& 0xF7#8 }) ∧
            RegisterInstr .sed 0xF8#8 2 (fun c c' => c' = { c with p := c.p ||| 0x08#8 }) ∧
              RegisterInstr .clv 0xB8#8 2 (fun c c' => c' = { c with p := c.p &&& 0xBF#8 })

/-- `NOP` and the 105 undocumented opcodes (R241, R250, R251): one byte, nothing changes but the cycle count. -/
def Obligations.NoOperationResults : Prop :=
  (∀ (i : Instr) (op n : Nat), (i, op, n) ∈ noOperations → RegisterInstr i (BitVec.ofNat 8 op) n (fun c c' => c' = c)) ∧
    noOperations.length = 106

/-- `BRK` and `RTI` (R243, R244). `BRK` takes the software interrupt: the address of the opcode plus 2 and the status
with B and U set are pushed, I is set, `PC` comes from the vector at 0xFFFE, 7 cycles. `RTI` pulls the status byte, then
`PC`, low byte first, with no adjustment. -/
def Obligations.BreakAndReturnResults : Prop :=
  (Encodes .brk [0x00#8] ∧
      ∀ s : State,
        ∃ t,
          exec .brk s = .next t ∧
            Enters s t (s.cpu.pc + 1#16) (s.cpu.p ||| 0x30#8) (s.cpu.p ||| 0x04#8) 0xFFFE#16 7) ∧
    Encodes .rti [0x40#8] ∧
      ∀ s : State,
        let status := stackTop s
        let lo := stackTop (setSP (s.cpu.sp + 1#8) s)
        let hi := stackTop (setSP (s.cpu.sp + 2#8) s)
        exec .rti s =
          .next
            { s with
              cpu :=
                { s.cpu with
                  p := (status &&& 0xCF#8) ||| 0x20#8, pc := wordOf lo hi, sp := s.cpu.sp + 3#8, cycles := 6 } }

/-! ## Interrupts and reset -/

/-- `CPU.irq()` and `CPU.nmi()` (R308 to R311): B clear and U set in the pushed status; I set by `irq()` alone; an `irq()`
with I set does nothing at all. -/
def Obligations.InterruptEntries : Prop :=
  ∀ s : State,
    (flagI s.cpu.p = false →
        Enters s (cpuIrq s) s.cpu.pc ((s.cpu.p &&& 0xEF#8) ||| 0x20#8) (s.cpu.p ||| 0x04#8) 0xFFFE#16 7) ∧
      (flagI s.cpu.p = true → cpuIrq s = s) ∧
        Enters s (cpuNmi s) s.cpu.pc ((s.cpu.p &&& 0xEF#8) ||| 0x20#8) s.cpu.p 0xFFFA#16 7

/-- The NMI fires exactly at dot (241, 1) with the enable bit set at that instant (R320, R353, R403): with `u` the machine
after the PPU's dot and the CPU's slot, the step's CPU is `u`'s, but for the NMI's entry at that dot; and no request is
left over. -/
def Obligations.NmiDelivery : Prop :=
  ∀ s : State,
    s.ppu.nmiOut = false →
      ∃ u t,
        cpuSlot (ppuTick s) = .next u ∧
          step s = .next t ∧
            t.ppu.nmiOut = false ∧
              ((s.ppu.scanline = 241 ∧ s.ppu.cycle = 1 ∧ s.ppu.ctrl.getLsbD 7 = true) →
                  t.cpu =
                      { u.cpu with
                        sp := u.cpu.sp - 3#8, pc := peekWord 0xFFFA#16 u, cycles := 7 } ∧
                    t.bus.ram =
                      pushedRam u.bus.ram u.cpu.sp
                        [hiByte u.cpu.pc, loByte u.cpu.pc, (u.cpu.p &&& 0xEF#8) ||| 0x20#8]) ∧
                (¬(s.ppu.scanline = 241 ∧ s.ppu.cycle = 1 ∧ s.ppu.ctrl.getLsbD 7 = true) →
                  t.cpu = u.cpu ∧ t.bus.ram = u.bus.ram)

/-- A call and its return, and an interrupt and its return, come back (R211, R212, R243, R244, R310, R313): `PC` where the
rules say, `SP`, `P` and the other registers as they were. -/
def Obligations.ReturnsComeBack : Prop :=
  ∀ (w : Word) (s : State),
    s.Inv →
      (∃ t u,
          exec (.jsr w) s = .next t ∧
            t.cpu.pc = w ∧ exec .rts t = .next u ∧ u.cpu = { s.cpu with cycles := 6 }) ∧
        (∃ t u,
            exec .brk s = .next t ∧
              exec .rti t = .next u ∧ u.cpu = { s.cpu with pc := s.cpu.pc + 1#16, cycles := 6 }) ∧
          ∃ u, exec .rti (cpuNmi s) = .next u ∧ u.cpu = { s.cpu with cycles := 6 }

/-- `Bus.reset()` from any state (R570 to R574, R576): every register of every block, the memories and the cartridge
unchanged. That the model's own field `freeCount` is kept is the model's choice (log 10), no rule of the spec. -/
def Obligations.ResetResult : Prop :=
  ∀ (r : ResetValues) (s : State),
    busReset r s =
      { cpu :=
          { a := r.a, x := r.x, y := r.y, sp := 0xFD#8, pc := peekWord 0xFFFC#16 s, p := 0x24#8, cycles := 8,
            clockCount := 0 }
        bus :=
          { s.bus with
            sysClock := 0, dma := ⟨false, true, 0#8, 0#8, 0#8⟩, shift0 := 0xFF#8, shift1 := 0xFF#8, strobe := false,
            sampleAcc := 0, audioSample := 0 }
        ppu := { Ppu.initial s.ppu.vram s.ppu.palette s.ppu.oam s.ppu.frame with freeCount := s.ppu.freeCount }
        apu := Apu.initial
        cart := s.cart }

/-! ## The CPU bus -/

/-- The address decode (R74, R76 to R79). -/
def Obligations.AddressDecode : Prop :=
  ∀ a : Word,
    (a.toNat < 0x2000 → ownerOf a = .ram (a &&& 0x07FF#16).toNat) ∧
      (0x2000 ≤ a.toNat ∧ a.toNat < 0x4000 → ownerOf a = .ppu ((a &&& 0x0007#16).setWidth 3)) ∧
        (0x4000 ≤ a.toNat ∧ a.toNat ≤ 0x4013 → ownerOf a = .apu (a.toNat - 0x4000)) ∧
          ownerOf 0x4014#16 = .oamDma ∧
            ownerOf 0x4015#16 = .apuStatus ∧
              ownerOf 0x4016#16 = .pad0 ∧
                ownerOf 0x4017#16 = .pad1 ∧
                  (0x4018 ≤ a.toNat ∧ a.toNat ≤ 0x401F → ownerOf a = .unused) ∧
                    (0x4020 ≤ a.toNat → ownerOf a = .cartridge)

/-- What a CPU read returns and changes. The byte comes from the owner of the address (R74, R76 to R79): RAM, a port of the
PPU, the APU's status, bit 7 of a controller's shift register, the cartridge, or 0x00. A read-only read returns the same
byte and changes nothing (R72); any other read changes what R80 says: the status register, the data port and the two
controllers, and nothing anywhere else. -/
def Obligations.ReadSideEffects : Prop :=
  ∀ (a : Word) (s : State),
    let port := 0x2000 ≤ a.toNat ∧ a.toNat < 0x4000
    let bit7 (r : Byte) : Byte := if r.getLsbD 7 then 1#8 else 0#8
    (cpuRead a false s).1 =
        (if a.toNat < 0x2000 then Memory.read s.bus.ram (a.toNat % 0x800)
        else if port then (s.ppu.readPort s.cart (BitVec.ofNat 3 (a.toNat % 8)) false).1
        else if a = 0x4015#16 then s.apu.status
        else if a = 0x4016#16 then bit7 s.bus.shift0
        else if a = 0x4017#16 then bit7 s.bus.shift1
        else if a.toNat < 0x4020 then 0x00#8
        else cartRead s.cart a) ∧
      cpuRead a true s = ((cpuRead a false s).1, s) ∧ (cpuRead a false s).2 =
        if port ∧ a.toNat % 8 = 2 then { s with ppu := { s.ppu with verticalBlank := false, w := false } }
        else if port ∧ a.toNat % 8 = 7 then
          { s with
            ppu :=
              { s.ppu with
                dataBuffer := ppuRead s.cart s.ppu (s.ppu.v.setWidth 14)
                v := s.ppu.v + if s.ppu.ctrl.getLsbD 2 then 32#15 else 1#15 } }
        else if a = 0x4016#16 then { s with bus := { s.bus with shift0 := (s.bus.shift0 <<< 1) ||| 1#8 } }
        else if a = 0x4017#16 then { s with bus := { s.bus with shift1 := (s.bus.shift1 <<< 1) ||| 1#8 } }
        else s

/-- A store goes to the owner of the address (R74, R84): RAM, a port of the PPU, a register of the APU; a store to cartridge
space, to PPU port 2 or to 0x4018 to 0x401F changes nothing. (0x4014 is `DmaSteps`, 0x4016 is `ControllerReads`.) A store is
seen by every later load of the same cell, through every mirror of it, and by no load of another (R76, R90). -/
def Obligations.StoreThenLoad : Prop :=
  ∀ (a b : Word) (v : Byte) (s : State),
    (b.toNat < 0x2000 →
        cpuWrite b v s = { s with bus := { s.bus with ram := Memory.write s.bus.ram (b.toNat % 0x800) v } }) ∧
      (0x2000 ≤ b.toNat → b.toNat < 0x4000 →
        let q := s.ppu.writePort s.cart (BitVec.ofNat 3 (b.toNat % 8)) v
        cpuWrite b v s = { s with ppu := q.1, cart := q.2 }) ∧
      (0x4000 ≤ b.toNat → b.toNat ≤ 0x4013 → cpuWrite b v s = { s with apu := s.apu.write (b.toNat - 0x4000) v }) ∧
      cpuWrite 0x4015#16 v s = { s with apu := s.apu.write 0x15 v } ∧
      cpuWrite 0x4017#16 v s = { s with apu := s.apu.write 0x17 v } ∧
      (0x4020 ≤ b.toNat ∨ (0x4018 ≤ b.toNat ∧ b.toNat ≤ 0x401F) ∨
          (0x2000 ≤ b.toNat ∧ b.toNat < 0x4000 ∧ b.toNat % 8 = 2) →
        cpuWrite b v s = s) ∧
      (s.Inv → SameCell a b → peek a (cpuWrite b v s) = v) ∧
      (IsMemory a → ¬SameCell a b → peek a (cpuWrite b v s) = peek a s)

/-- Pushed bytes lie in the stack page, at addresses falling with wrap from `SP` (R24, R306), and every other byte of
memory reads as before. -/
def Obligations.StackBytes : Prop :=
  ∀ (m : Memory) (sp b0 b1 b2 : Byte),
    Memory.Inv 2048 m →
      Memory.Inv 2048 (pushedRam m sp [b0, b1, b2]) ∧
        Memory.read (pushedRam m sp [b0, b1, b2]) (0x100 + sp.toNat) = b0 ∧
          Memory.read (pushedRam m sp [b0, b1, b2]) (0x100 + (sp - 1#8).toNat) = b1 ∧
            Memory.read (pushedRam m sp [b0, b1, b2]) (0x100 + (sp - 2#8).toNat) = b2 ∧
              ∀ i,
                i ≠ 0x100 + sp.toNat →
                  i ≠ 0x100 + (sp - 1#8).toNat →
                    i ≠ 0x100 + (sp - 2#8).toNat →
                      Memory.read (pushedRam m sp [b0, b1, b2]) i = Memory.read m i

/-- The controllers (R356, R357): a strobe write with bit 0 set latches both; then reads shift out A, B, Select, Start,
Up, Down, Left, Right and 1 ever after, the strobe held or not, each controller on its own (R358). -/
def Obligations.ControllerReads : Prop :=
  ∀ (s : State) (v : Byte) (j k : Nat),
    let strobed := cpuWrite 0x4016#16 v s
    strobed.bus.strobe = v.getLsbD 0 ∧
      (v.getLsbD 0 = false → strobed = { s with bus := { s.bus with strobe := false } }) ∧
        (v.getLsbD 0 = true →
          let t := readTimes 0x4016#16 j (readTimes 0x4017#16 k strobed)
          peek 0x4016#16 t = (if j < 8 then (if s.bus.controller0.getLsbD (7 - j) then 1#8 else 0#8) else 1#8) ∧
            peek 0x4017#16 t = (if k < 8 then (if s.bus.controller1.getLsbD (7 - k) then 1#8 else 0#8) else 1#8))

/-- OAM DMA, one slot (R360, R361). -/
def Obligations.DmaSteps : Prop :=
  ∀ (v : Byte) (s : State),
    cpuWrite 0x4014#16 v s = { s with bus := { s.bus with dma := { s.bus.dma with active := true, dummy := true, page := v, addr := 0#8 } } } ∧
      (s.bus.dma.dummy = true →
          dmaStep s =
            if s.bus.sysClock % 2 = 1 then { s with bus := { s.bus with dma := { s.bus.dma with dummy := false } } }
            else s) ∧
        (s.bus.dma.dummy = false → s.bus.sysClock % 2 = 0 →
          let r := cpuRead (wordOf s.bus.dma.addr s.bus.dma.page) false s
          dmaStep s = { r.2 with bus := { r.2.bus with dma := { s.bus.dma with data := r.1 } } }) ∧
          (s.bus.dma.dummy = false → s.bus.sysClock % 2 = 1 →
            dmaStep s =
              { s with
                ppu :=
                  { s.ppu with
                    oam := Memory.write s.ppu.oam s.ppu.oamAddr.toNat s.bus.dma.data
                    oamAddr := s.ppu.oamAddr + 1#8 }
                bus :=
                  { s.bus with
                    dma :=
                      { s.bus.dma with
                        addr := s.bus.dma.addr + 1#8
                        active := decide (s.bus.dma.addr ≠ 0xFF#8)
                        dummy := decide (s.bus.dma.addr = 0xFF#8) } } })

/-- A whole OAM DMA (R361, R362): 513 slots from an odd slot, 514 from an even one, copy the 256 bytes of the page to OAM
from `oam_addr` on, wrapping; then the engine is idle and `oam_addr` has its starting value. The engine runs alone here:
no NMI pushes into the page while it is copied. -/
def Obligations.DmaCopiesThePage : Prop :=
  ∀ (v : Byte) (s : State),
    s.Inv →
      (∀ k : Byte, IsMemory (wordOf k v)) →
        let t := dmaSlots (if s.bus.sysClock % 2 = 1 then 513 else 514) (cpuWrite 0x4014#16 v s)
        t.bus.dma.active = false ∧
          t.ppu.oamAddr = s.ppu.oamAddr ∧
            (∀ k : Byte, Memory.read t.ppu.oam (s.ppu.oamAddr + k).toNat = peek (wordOf k v) s) ∧
              t.bus.ram = s.bus.ram ∧ t.cpu = s.cpu

/-! ## The PPU -/

/-- What the eight ports read (R385, R387, R388, R391). -/
def Obligations.PpuPortReads : Prop :=
  ∀ (cart : Option Cartridge) (p : Ppu) (n : BitVec 3),
    (p.readPort cart n false).1 =
      match n.toNat with
      | 2 =>
        (if p.verticalBlank then 0x80#8 else 0#8) ||| (if p.spriteZeroHit then 0x40#8 else 0#8) |||
            (if p.spriteOverflow then 0x20#8 else 0#8) |||
          (p.dataBuffer &&& 0x1F#8)
      | 4 => Memory.read p.oam p.oamAddr.toNat
      | 7 => if 0x3F00 ≤ p.v.toNat % 0x4000 then ppuRead cart p (p.v.setWidth 14) else p.dataBuffer
      | _ => 0x00#8

/-- Writes of ports 0 to 4 (R386, R388, R393, R394). -/
def Obligations.PpuPortWrites : Prop :=
  ∀ (cart : Option Cartridge) (p : Ppu) (v : Byte),
    p.writePort cart 0#3 v =
        ({ p with ctrl := v, t := (p.t &&& 0x73FF#15) ||| ((v &&& 0x03#8).setWidth 15 <<< 10) }, cart) ∧
      p.writePort cart 1#3 v = ({ p with mask := v }, cart) ∧
        p.writePort cart 2#3 v = (p, cart) ∧
          p.writePort cart 3#3 v = ({ p with oamAddr := v }, cart) ∧
            p.writePort cart 4#3 v =
              ({ p with oam := Memory.write p.oam p.oamAddr.toNat v, oamAddr := p.oamAddr + 1#8 }, cart)

/-- The two-write ports (R389, R390): two scroll writes set fine X and the four scroll fields of `t`; two address writes
set `t` and `v` to the 14-bit address. -/
def Obligations.ScrollAndAddressWrites : Prop :=
  ∀ (cart : Option Cartridge) (p : Ppu) (d1 d2 : Byte),
    p.w = false →
      let q := ((p.writePort cart 5#3 d1).1.writePort cart 5#3 d2).1
      let r := ((p.writePort cart 6#3 d1).1.writePort cart 6#3 d2).1
      (p.writePort cart 5#3 d1).1.w = true ∧
        q =
            { p with
              fineX := d1.setWidth 3
              t :=
                (p.t &&& 0x0C00#15) ||| (d1 >>> 3).setWidth 15 ||| ((d2 >>> 3).setWidth 15 <<< 5) |||
                  ((d2 &&& 0x07#8).setWidth 15 <<< 12) } ∧
          (p.writePort cart 6#3 d1).1.w = true ∧
            (p.writePort cart 6#3 d1).1.v = p.v ∧
              r =
                { p with
                  t := ((d1 &&& 0x3F#8).setWidth 15 <<< 8) ||| d2.setWidth 15
                  v := ((d1 &&& 0x3F#8).setWidth 15 <<< 8) ||| d2.setWidth 15 }

/-- The data port (R391, R392): a write goes to the PPU bus at `v`, a read returns the byte of the read before, but not in
the palette; both step `v` by 1 or 32. -/
def Obligations.DataPortAccesses : Prop :=
  ∀ (cart : Option Cartridge) (p : Ppu) (data : Byte),
    let a := p.v.setWidth 14
    let next := p.v + if p.ctrl.getLsbD 2 then 32#15 else 1#15
    (p.readPort cart 7#3 false).2 = { p with dataBuffer := ppuRead cart p a, v := next } ∧
      p.writePort cart 7#3 data = ({ (ppuWrite cart p a data).1 with v := next }, (ppuWrite cart p a data).2) ∧
        (ppuWrite cart p a data).1.dataBuffer = p.dataBuffer

/-- The PPU bus (R395 to R399, R546). Reads: the pattern tables are the cartridge's CHR memory at the address, or 0x00 with
no cartridge; a nametable address reads the cell that the mirroring gives it; the palette reads the low six bits of its
cell. A write is read back, in the palette without its top two bits; CHR ROM, and the pattern tables with no cartridge,
ignore it; and no other cell of any of the three memories changes. -/
def Obligations.PpuBusStoreThenLoad : Prop :=
  ∀ (cart : Option Cartridge) (p : Ppu) (a b : PpuAddr) (data : Byte),
    p.Inv →
      (∀ c, cart = some c → c.Inv) →
        let q := (ppuWrite cart p a data).1
        let cart' := (ppuWrite cart p a data).2
        let pattern (x : PpuAddr) : Prop := x.toNat < 0x2000
        let nametable (x : PpuAddr) : Prop := 0x2000 ≤ x.toNat ∧ x.toNat < 0x3F00
        let palette (x : PpuAddr) : Prop := 0x3F00 ≤ x.toNat
        (pattern b → cart = none → ppuRead cart p b = 0x00#8) ∧
          (pattern b → ∀ c, cart = some c → ppuRead cart p b = Memory.read c.chr b.toNat) ∧
          (nametable b → ∀ i, nametableCell (mirroringOf cart) b = .vram i → ppuRead cart p b = Memory.read p.vram i) ∧
          (nametable b → ∀ c i, cart = some c → nametableCell c.mirroring b = .ext i →
            ppuRead cart p b = Memory.read c.ntExt i) ∧
          (palette b → ppuRead cart p b = Memory.read p.palette (palIndex b) &&& 0x3F#8) ∧
          (palette a → ppuRead cart' q a = data &&& 0x3F#8) ∧
          (nametable a → ppuRead cart' q a = data) ∧
          (pattern a → (∃ c, cart = some c ∧ c.chrBanks = 0) → ppuRead cart' q a = data) ∧
          (pattern a → (∀ c, cart = some c → c.chrBanks ≠ 0) → q = p ∧ cart' = cart) ∧
          ((pattern b ∧ a ≠ b) ∨
              (nametable b ∧ (¬nametable a ∨ nametableCell (mirroringOf cart) a ≠ nametableCell (mirroringOf cart) b)) ∨
                (palette b ∧ (¬palette a ∨ palIndex a ≠ palIndex b)) →
            ppuRead cart' q b = ppuRead cart p b)

/-- Nametable mirroring (R397): bits 11:10 of the address choose the table, bits 9:0 the byte. The palette (R398, R399):
entries 0x10, 0x14, 0x18, 0x1C are the cells 0x00, 0x04, 0x08, 0x0C, and a read gives the low six bits. -/
def Obligations.MirroringAndAliases : Prop :=
  ∀ a : PpuAddr,
    let table0 := a.getLsbD 10
    let table1 := a.getLsbD 11
    let o := (a &&& 0x03FF#14).toNat
    nametableCell .vertical a = .vram (o + if table0 then 1024 else 0) ∧
      nametableCell .horizontal a = .vram (o + if table1 then 1024 else 0) ∧
        nametableCell .singleLo a = .vram o ∧
          nametableCell .singleHi a = .vram (1024 + o) ∧
            (table1 = false → nametableCell .fourScreen a = .vram (o + if table0 then 1024 else 0)) ∧
              (table1 = true → nametableCell .fourScreen a = .ext (o + if table0 then 1024 else 0)) ∧
                palIndex a =
                    (if a.toNat % 32 = 0x10 ∨ a.toNat % 32 = 0x14 ∨ a.toNat % 32 = 0x18 ∨ a.toNat % 32 = 0x1C then
                      a.toNat % 32 - 0x10
                    else a.toNat % 32) ∧
                  ∀ m : Memory, paletteRead m a = Memory.read m (palIndex a) &&& 0x3F#8

/-- Scroll arithmetic on `v`, field by field (R415 to R418); the background pipeline, that is what one dot with rendering
enabled on scanlines −1 to 239 does to the shifters, the tile latches and `v`, each at the cycles of the schedule (R410 to
R414, R419), with no other scroll register, port register or memory of the PPU moved; and the background pixel (R420). -/
def Obligations.ScrollArithmetic : Prop :=
  (∀ t v : Loopy,
      (incrementX v =
          if v &&& 0x1F#15 = 31#15 then (v &&& 0x7FE0#15) ^^^ 0x0400#15 else v + 1#15) ∧
        (incrementY v =
          if v &&& 0x7000#15 ≠ 0x7000#15 then v + 0x1000#15
          else if v &&& 0x03E0#15 = 0x03A0#15 then (v &&& 0x0C1F#15) ^^^ 0x0800#15
          else if v &&& 0x03E0#15 = 0x03E0#15 then v &&& 0x0C1F#15
          else (v &&& 0x0FFF#15) + 0x20#15) ∧
          transferX t v = ((v &&& 0x7BE0#15) ||| (t &&& 0x041F#15)) ∧
            transferY t v = ((v &&& 0x041F#15) ||| (t &&& 0x7BE0#15))) ∧
    (∀ (cart : Option Cartridge) (p : Ppu),
      p.rendering = true →
        -1 ≤ p.scanline →
          p.scanline ≤ 239 →
            let q := p.clock cart
            let c := p.cycle
            let shifts := (2 ≤ c ∧ c ≤ 257) ∨ (322 ≤ c ∧ c ≤ 337)
            let reloads := ((9 ≤ c ∧ c ≤ 257) ∨ (329 ≤ c ∧ c ≤ 337)) ∧ c % 8 = 1
            let fetches := (1 ≤ c ∧ c ≤ 256) ∨ (321 ≤ c ∧ c ≤ 336)
            let shifted (r : BitVec 16) : BitVec 16 := if shifts then r <<< 1 else r
            let loaded (r : BitVec 16) (b : Byte) : BitVec 16 :=
              if reloads then (shifted r &&& 0xFF00#16) ||| b.setWidth 16 else shifted r
            let attrByte :=
              ppuRead cart p
                (0x23C0#14 ||| ((p.v &&& 0x0C00#15) ||| ((p.v >>> 4) &&& 0x38#15) ||| ((p.v >>> 2) &&& 0x07#15)).setWidth 14)
            let pattern :=
              (if p.ctrl.getLsbD 4 then 0x1000 else 0) + p.nextTileId.toNat * 16 + (p.v >>> 12).toNat
            (q.bgPatLo = loaded p.bgPatLo p.nextTileLsb ∧
                q.bgPatHi = loaded p.bgPatHi p.nextTileMsb ∧
                q.bgAttLo = loaded p.bgAttLo (if p.nextTileAttrib.getLsbD 0 then 0xFF#8 else 0x00#8) ∧
                q.bgAttHi = loaded p.bgAttHi (if p.nextTileAttrib.getLsbD 1 then 0xFF#8 else 0x00#8)) ∧
              (q.nextTileId =
                  (if (fetches ∧ c % 8 = 1) ∨ c = 337 ∨ c = 339 then
                    ppuRead cart p (0x2000#14 ||| (p.v &&& 0x0FFF#15).setWidth 14)
                  else p.nextTileId) ∧
                q.nextTileAttrib =
                  (if fetches ∧ c % 8 = 3 then
                    (attrByte >>> ((if p.v.getLsbD 6 then 4 else 0) + (if p.v.getLsbD 1 then 2 else 0))).setWidth 2
                  else p.nextTileAttrib) ∧
                q.nextTileLsb =
                  (if fetches ∧ c % 8 = 5 then ppuRead cart p (BitVec.ofNat 14 pattern) else p.nextTileLsb) ∧
                q.nextTileMsb =
                  (if fetches ∧ c % 8 = 7 then ppuRead cart p (BitVec.ofNat 14 (pattern + 8)) else p.nextTileMsb)) ∧
              (q.v =
                if c = 256 then incrementY (incrementX p.v)
                else if c = 257 then transferX p.t p.v
                else if p.scanline = -1 ∧ 280 ≤ c ∧ c ≤ 304 then transferY p.t p.v
                else if fetches ∧ c % 8 = 0 then incrementX p.v
                else p.v) ∧
              (q.t = p.t ∧ q.fineX = p.fineX ∧ q.w = p.w ∧ q.ctrl = p.ctrl ∧ q.mask = p.mask ∧ q.oamAddr = p.oamAddr ∧
                q.dataBuffer = p.dataBuffer ∧ q.vram = p.vram ∧ q.palette = p.palette ∧ q.oam = p.oam)) ∧
    ∀ (p : Ppu) (c : Nat),
      let tap (r : BitVec 16) : Nat := if r.getLsbD (15 - p.fineX.toNat) then 1 else 0
      p.backgroundPixel c =
        if p.mask.getLsbD 3 = false ∨ (p.mask.getLsbD 1 = false ∧ c ≤ 8) then (0#2, 0#2)
        else (BitVec.ofNat 2 (2 * tap p.bgPatHi + tap p.bgPatLo), BitVec.ofNat 2 (2 * tap p.bgAttHi + tap p.bgAttLo))

/-- The dot position, vertical blank and the end of a frame over one dot, whatever the pipelines do (R401 to R404):
`vertical_blank` is set at (241, 1) and cleared at (−1, 1) only; sprite-zero hit and overflow are cleared at (−1, 1) only;
the frame buffer is written on scanlines 0 to 239 only. -/
def Obligations.DotPosition : Prop :=
  ∀ (cart : Option Cartridge) (p : Ppu),
    p.Inv →
      let q := p.clock cart
      dotIndex q = (dotIndex p + 1) % 89342 ∧
        (q.frameComplete = true ↔ p.frameComplete = true ∨ (p.scanline = 260 ∧ p.cycle = 340)) ∧
          (q.verticalBlank =
            if p.scanline = 241 ∧ p.cycle = 1 then true
            else if p.scanline = -1 ∧ p.cycle = 1 then false
            else p.verticalBlank) ∧
            (p.scanline = -1 → p.cycle = 1 → q.spriteZeroHit = false ∧ q.spriteOverflow = false ∧ q.spriteCount = 0) ∧
              (¬(p.scanline = -1 ∧ p.cycle = 1) →
                (p.spriteZeroHit = true → q.spriteZeroHit = true) ∧
                  (p.spriteOverflow = true → q.spriteOverflow = true)) ∧
                (q.nmiOut = true ↔ p.nmiOut = true ∨ (p.scanline = 241 ∧ p.cycle = 1 ∧ p.ctrl.getLsbD 7 = true)) ∧
                  (p.scanline < 0 ∨ 239 < p.scanline → q.frame = p.frame)

/-- Rendering disabled (R410, R436, R440). One dot: the scroll registers, the shifters and latches of both pipelines, the
port registers and the memories stand still, but for the clears that happen whether or not rendering is enabled, of R402 at
dot (−1, 1) and of R426 at dot (s, 257), after which the next line has no sprites; and every dot of the picture writes the
backdrop, palette entry 0, and no other pixel. The fields given as those of `q` itself are the subject of `DotPosition`. -/
def Obligations.RenderingDisabled : Prop :=
  ∀ (cart : Option Cartridge) (p : Ppu),
    p.Inv →
      p.mask.getLsbD 3 = false →
        p.mask.getLsbD 4 = false →
          let q := p.clock cart
          let preRender := p.scanline = -1 ∧ p.cycle = 1
          let evaluates := 0 ≤ p.scanline ∧ p.scanline ≤ 239 ∧ p.cycle = 257
          let drawn := 0 ≤ p.scanline ∧ p.scanline ≤ 239 ∧ 1 ≤ p.cycle ∧ p.cycle ≤ 256
          q =
              { p with
                scanline := q.scanline
                cycle := q.cycle
                frameComplete := q.frameComplete
                verticalBlank := q.verticalBlank
                nmiOut := q.nmiOut
                frame := q.frame
                spriteZeroHit := if preRender then false else p.spriteZeroHit
                spriteOverflow := if preRender then false else p.spriteOverflow
                secOam :=
                  if evaluates then List.replicate 8 ⟨0xFF#8, 0xFF#8, 0xFF#8, 0xFF#8⟩ else p.secOam
                spriteCount := if preRender ∨ evaluates then 0 else p.spriteCount
                spriteZeroPossible := if preRender ∨ evaluates then false else p.spriteZeroPossible
                slots :=
                  if preRender ∨ evaluates then p.slots.map fun sl => ⟨0x00#8, 0x00#8, sl.x, sl.attr⟩ else p.slots } ∧
            ∀ y x,
              Frame.read q.frame y x =
                if drawn ∧ (y : Int) = p.scanline ∧ x + 1 = p.cycle then (Memory.read p.palette 0).setWidth 6
                else Frame.read p.frame y x

/-- Composition and the sprite-zero hit (R441, R442), and the pixel that a dot of the picture draws, rendering enabled or
not (R440, R443): the background and the sprite pixel after the dot's shifts, composed, give the palette entry that is
written at column `cycle − 1` of row `scanline`, and no other pixel changes. -/
def Obligations.PixelComposition : Prop :=
  (∀ (p : Ppu) (c : Nat) (bp bpal : BitVec 2) (sp : SpritePixel),
      (bp = 0#2 → sp.pixel = 0#2 → compose bp bpal sp = (0#2, 0#3)) ∧
        (bp = 0#2 → sp.pixel ≠ 0#2 → compose bp bpal sp = (sp.pixel, sp.palette)) ∧
          (bp ≠ 0#2 → sp.pixel = 0#2 → compose bp bpal sp = (bp, bpal.setWidth 3)) ∧
            (bp ≠ 0#2 → sp.pixel ≠ 0#2 →
              compose bp bpal sp = if sp.inFront then (sp.pixel, sp.palette) else (bp, bpal.setWidth 3)) ∧
              (p.spriteZeroTest c bp sp = true ↔
                sp.isZero = true ∧ bp ≠ 0#2 ∧ sp.pixel ≠ 0#2 ∧ p.mask.getLsbD 3 = true ∧ p.mask.getLsbD 4 = true ∧
                  c ≤ 255)) ∧
    ∀ (cart : Option Cartridge) (p : Ppu),
      p.Inv →
        0 ≤ p.scanline →
          p.scanline ≤ 239 →
            1 ≤ p.cycle →
              p.cycle ≤ 256 →
                let q := p.clock cart
                let b := q.backgroundPixel p.cycle
                let sp := q.spritePixel p.cycle
                let r := compose b.1 b.2 sp
                q.spriteZeroHit = (p.spriteZeroHit || q.spriteZeroTest p.cycle b.1 sp) ∧
                  ∀ y x,
                    Frame.read q.frame y x =
                      if (y : Int) = p.scanline ∧ x + 1 = p.cycle then
                        (ppuRead cart p (BitVec.ofNat 14 (0x3F00 + 4 * r.2.toNat + r.1.toNat))).setWidth 6
                      else Frame.read p.frame y x

/-- The sprite pipeline. Evaluation (R426, R427): the first eight OAM entries in range, in OAM order, the rest of the buffer
0xFF; the flag for sprite 0; and after the eighth, the search that compares byte `j mod 4` of the `j`-th entry after it;
it happens at dot (s, 257), with the patterns of all slots cleared. Fetch at dot (s, 320) (R428 to R430): an active slot
takes its entry's X and attribute bytes and the two pattern bytes of its row, flipped as its attribute says; a row outside
the height is left open by the rule (log 10). Shift on cycles 2 to 257 (R431). Pixel (R432): the first slot with an opaque
pixel, whatever its priority bit. -/
def Obligations.SpriteEvaluation : Prop :=
  (∀ (p : Ppu) (s : Nat),
      p.rendering = true →
        let h := if p.ctrl.getLsbD 5 then 16 else 8
        let found := (visibleSprites p.oam s h).take 8
        let q := p.spriteEvaluation s
        q.spriteCount = found.length ∧
          q.secOam = found.map (oamEntry p.oam) ++ List.replicate (8 - found.length) ⟨0xFF#8, 0xFF#8, 0xFF#8, 0xFF#8⟩ ∧
            (q.spriteZeroPossible = true ↔ 0 ∈ found) ∧
              (q.spriteOverflow = true ↔
                p.spriteOverflow = true ∨
                  ∃ n j,
                    found[7]? = some n ∧
                      n + 1 + j < 64 ∧
                        (Memory.read p.oam (4 * (n + 1 + j) + j % 4)).toNat ≤ s ∧
                          s < (Memory.read p.oam (4 * (n + 1 + j) + j % 4)).toNat + h)) ∧
    (∀ (cart : Option Cartridge) (p : Ppu),
      p.Inv →
        p.rendering = true →
          -1 ≤ p.scanline →
            p.scanline ≤ 239 →
              let q := p.clock cart
              let s := p.scanline.toNat
              let evaluated := p.spriteEvaluation s
              let preRender := p.scanline = -1 ∧ p.cycle = 1
              let evaluates := 0 ≤ p.scanline ∧ p.cycle = 257
              let fetches := 0 ≤ p.scanline ∧ p.cycle = 320
              let shifts := 2 ≤ p.cycle ∧ p.cycle ≤ 257
              (q.spriteCount =
                  (if preRender then 0 else if evaluates then evaluated.spriteCount else p.spriteCount) ∧
                q.secOam = (if evaluates then evaluated.secOam else p.secOam) ∧
                q.spriteZeroPossible =
                  (if preRender then false
                  else if evaluates then evaluated.spriteZeroPossible else p.spriteZeroPossible) ∧
                q.spriteOverflow =
                  (if preRender then false else if evaluates then evaluated.spriteOverflow else p.spriteOverflow)) ∧
                (¬fetches →
                  ∀ i,
                    q.slots[i]? =
                      (p.slots[i]?).map fun sl =>
                        let moved : SpriteSlot :=
                          if ¬(shifts ∧ i < p.spriteCount) then sl
                          else if sl.x ≠ 0#8 then { sl with x := sl.x - 1#8 }
                          else { sl with patLo := sl.patLo <<< 1, patHi := sl.patHi <<< 1 }
                        if preRender ∨ evaluates then { moved with patLo := 0x00#8, patHi := 0x00#8 } else moved) ∧
                  (fetches →
                    ∀ i,
                      (p.spriteCount ≤ i → q.slots[i]? = p.slots[i]?) ∧
                        ∀ e,
                          p.secOam[i]? = some e →
                            i < p.spriteCount →
                              let tall := p.ctrl.getLsbD 5
                              let h := if tall then 16 else 8
                              let row := s - e.y.toNat
                              let r := if e.attr.getLsbD 7 then h - 1 - row else row
                              let a :=
                                if tall then
                                  (if e.id.getLsbD 0 then 0x1000 else 0) +
                                    ((e.id &&& 0xFE#8).toNat + if 8 ≤ r then 1 else 0) * 16 + r % 8
                                else (if p.ctrl.getLsbD 3 then 0x1000 else 0) + e.id.toNat * 16 + r
                              let flip (b : Byte) : Byte := if e.attr.getLsbD 6 then b.reverse else b
                              (∃ lo hi, q.slots[i]? = some ⟨lo, hi, e.x, e.attr⟩) ∧
                                (e.y.toNat ≤ s → s < e.y.toNat + h →
                                  q.slots[i]? =
                                    some
                                      ⟨flip (ppuRead cart p (BitVec.ofNat 14 a)),
                                        flip (ppuRead cart p (BitVec.ofNat 14 (a + 8))), e.x, e.attr⟩))) ∧
    ∀ (p : Ppu) (c : Nat),
      let masked := p.mask.getLsbD 4 = false ∨ (p.mask.getLsbD 2 = false ∧ c ≤ 8)
      let value (sl : SpriteSlot) : BitVec 2 :=
        BitVec.ofNat 2 ((if sl.patHi.getLsbD 7 then 2 else 0) + if sl.patLo.getLsbD 7 then 1 else 0)
      let opaqueAt (i : Nat) (sl : SpriteSlot) : Prop :=
        i < p.spriteCount ∧ p.slots[i]? = some sl ∧ sl.x = 0#8 ∧ value sl ≠ 0#2
      (masked → p.spritePixel c = ⟨0#2, 0#3, false, false⟩) ∧
        ((∀ i sl, ¬opaqueAt i sl) → p.spritePixel c = ⟨0#2, 0#3, false, false⟩) ∧
          ∀ i sl,
            ¬masked →
              opaqueAt i sl →
                (∀ j other, j < i → ¬opaqueAt j other) →
                  p.spritePixel c =
                    ⟨value sl, (sl.attr &&& 0x03#8).setWidth 3 + 4#3, !sl.attr.getLsbD 5,
                      decide (i = 0) && p.spriteZeroPossible⟩

/-! ## The APU -/

/-- APU register writes (R476 to R479, R491, R501): a few fields each, nothing of another channel; the lengths that an
index loads (R487). -/
def Obligations.ApuRegisterWrites : Prop :=
  ∀ (a : Apu) (d : Byte),
    let lengths : List Byte :=
      [10#8, 254#8, 20#8, 2#8, 40#8, 4#8, 80#8, 6#8, 160#8, 8#8, 60#8, 10#8, 14#8, 12#8, 26#8, 14#8,
        12#8, 16#8, 24#8, 18#8, 48#8, 20#8, 96#8, 22#8, 192#8, 24#8, 72#8, 26#8, 16#8, 28#8, 32#8, 30#8]
    let load (enabled : Bool) (old : Byte) : Byte := if enabled then lengths.getD (d >>> 3).toNat 0#8 else old
    let low (t : BitVec 11) : BitVec 11 := (t &&& 0x700#11) ||| d.setWidth 11
    let high (t : BitVec 11) : BitVec 11 := (t &&& 0x0FF#11) ||| ((d &&& 0x07#8).setWidth 11 <<< 8)
    let control (p : Pulse) : Pulse :=
      { p with
        duty := (d >>> 6).setWidth 2, halt := d.getLsbD 5, constVol := d.getLsbD 4, vol := d.setWidth 4 }
    let sweep (p : Pulse) : Pulse :=
      { p with
        swEnable := d.getLsbD 7, swPeriod := (d >>> 4).setWidth 3, swNegate := d.getLsbD 3, swShift := d.setWidth 3,
        swReload := true }
    let restart (p : Pulse) : Pulse :=
      { p with
        timerPeriod := high p.timerPeriod, length := load p.enabled p.length, seq := 0#3,
        env := { p.env with start := true } }
    (a.write 0x00 d = { a with pulse1 := control a.pulse1 } ∧
        a.write 0x01 d = { a with pulse1 := sweep a.pulse1 } ∧
          a.write 0x02 d = { a with pulse1 := { a.pulse1 with timerPeriod := low a.pulse1.timerPeriod } } ∧
            a.write 0x03 d = { a with pulse1 := restart a.pulse1 }) ∧
      (a.write 0x04 d = { a with pulse2 := control a.pulse2 } ∧
          a.write 0x05 d = { a with pulse2 := sweep a.pulse2 } ∧
            a.write 0x06 d = { a with pulse2 := { a.pulse2 with timerPeriod := low a.pulse2.timerPeriod } } ∧
              a.write 0x07 d = { a with pulse2 := restart a.pulse2 }) ∧
        (a.write 0x08 d =
              { a with triangle := { a.triangle with control := d.getLsbD 7, linReloadVal := d.setWidth 7 } } ∧
            a.write 0x0A d = { a with triangle := { a.triangle with timerPeriod := low a.triangle.timerPeriod } } ∧
              a.write 0x0B d =
                { a with
                  triangle :=
                    { a.triangle with
                      timerPeriod := high a.triangle.timerPeriod
                      length := load a.triangle.enabled a.triangle.length
                      linReload := true } }) ∧
          (a.write 0x0C d =
                { a with
                  noise :=
                    { a.noise with halt := d.getLsbD 5, constVol := d.getLsbD 4, vol := d.setWidth 4 } } ∧
              a.write 0x0E d =
                  { a with noise := { a.noise with mode := d.getLsbD 7, periodIndex := d.setWidth 4 } } ∧
                a.write 0x0F d =
                  { a with
                    noise :=
                      { a.noise with
                        length := load a.noise.enabled a.noise.length, env := { a.noise.env with start := true } } }) ∧
            ∀ r, r ∈ [0x09, 0x0D, 0x10, 0x11, 0x12, 0x13] → a.write r d = a

/-- The enables, the status byte and the frame-counter register (R471, R511, R512): a disabled channel's length counter is
0, an enabled one keeps it; the status shows which counters are not 0; a five-step write clocks both kinds of unit. -/
def Obligations.ApuStatusAndSequencer : Prop :=
  ∀ (a : Apu) (d : Byte),
    (a.write 0x15 d =
        { a with
          pulse1 := { a.pulse1 with enabled := d.getLsbD 0, length := if d.getLsbD 0 then a.pulse1.length else 0#8 }
          pulse2 := { a.pulse2 with enabled := d.getLsbD 1, length := if d.getLsbD 1 then a.pulse2.length else 0#8 }
          triangle :=
            { a.triangle with enabled := d.getLsbD 2, length := if d.getLsbD 2 then a.triangle.length else 0#8 }
          noise := { a.noise with enabled := d.getLsbD 3, length := if d.getLsbD 3 then a.noise.length else 0#8 } }) ∧
      (a.status =
        (if a.pulse1.length = 0#8 then 0#8 else 1#8) ||| (if a.pulse2.length = 0#8 then 0#8 else 2#8) |||
            (if a.triangle.length = 0#8 then 0#8 else 4#8) |||
          (if a.noise.length = 0#8 then 0#8 else 8#8)) ∧
        a.write 0x17 d =
          (if d.getLsbD 7 then
            ({ a with frameMode := true, irqInhibit := d.getLsbD 6, frameCounter := 0 }.quarterFrame).halfFrame
          else { a with frameMode := false, irqInhibit := d.getLsbD 6, frameCounter := 0 })

/-- The two events of the frame sequencer (R470, R482, R484, R486, R493): envelopes and the linear counter; length
counters and sweeps; and of each event what it leaves unchanged, which is everything else. -/
def Obligations.SequencerEvents : Prop :=
  ∀ a : Apu,
    let env (e : Envelope) (vol : BitVec 4) (loop : Bool) (e' : Envelope) : Prop :=
      e' =
        if e.start then ⟨false, vol, 15#4⟩
        else if e.div ≠ 0#4 then { e with div := e.div - 1#4 }
        else if e.decay ≠ 0#4 then { e with div := vol, decay := e.decay - 1#4 }
        else { e with div := vol, decay := if loop then 15#4 else 0#4 }
    let len (halt : Bool) (n n' : Byte) : Prop := n'.toNat = if halt then n.toNat else n.toNat - 1
    let q := a.quarterFrame
    let h := a.halfFrame
    (env a.pulse1.env a.pulse1.vol a.pulse1.halt q.pulse1.env ∧
        env a.pulse2.env a.pulse2.vol a.pulse2.halt q.pulse2.env ∧
          env a.noise.env a.noise.vol a.noise.halt q.noise.env ∧
            q.triangle.linCounter.toNat =
                (if a.triangle.linReload then a.triangle.linReloadVal.toNat else a.triangle.linCounter.toNat - 1) ∧
              q.triangle.linReload = (a.triangle.linReload && a.triangle.control)) ∧
      (q =
          { a with
            pulse1 := { a.pulse1 with env := q.pulse1.env }
            pulse2 := { a.pulse2 with env := q.pulse2.env }
            triangle := { a.triangle with linCounter := q.triangle.linCounter, linReload := q.triangle.linReload }
            noise := { a.noise with env := q.noise.env } } ∧
        h =
          { a with
            pulse1 :=
              { a.pulse1 with
                length := h.pulse1.length, timerPeriod := h.pulse1.timerPeriod, swDiv := h.pulse1.swDiv,
                swReload := h.pulse1.swReload }
            pulse2 :=
              { a.pulse2 with
                length := h.pulse2.length, timerPeriod := h.pulse2.timerPeriod, swDiv := h.pulse2.swDiv,
                swReload := h.pulse2.swReload }
            triangle := { a.triangle with length := h.triangle.length }
            noise := { a.noise with length := h.noise.length } }) ∧
      len a.pulse1.halt a.pulse1.length h.pulse1.length ∧
        len a.pulse2.halt a.pulse2.length h.pulse2.length ∧
          len a.triangle.control a.triangle.length h.triangle.length ∧
            len a.noise.halt a.noise.length h.noise.length ∧
              ∀ r : Bool,
                let p := if r then a.pulse1 else a.pulse2
                let p' := if r then h.pulse1 else h.pulse2
                let change := p.timerPeriod.toNat / 2 ^ p.swShift.toNat
                let target :=
                  if p.swNegate then p.timerPeriod.toNat - (change + if r then 1 else 0) else p.timerPeriod.toNat + change
                let fires :=
                  p.swDiv = 0#3 ∧ p.swEnable = true ∧ p.swShift ≠ 0#3 ∧ 8 ≤ p.timerPeriod.toNat ∧ target ≤ 0x7FF
                p'.timerPeriod.toNat = (if fires then target else p.timerPeriod.toNat) ∧
                  p'.swDiv = (if p.swDiv = 0#3 ∨ p.swReload = true then p.swPeriod else p.swDiv - 1#3) ∧
                    p'.swReload = false

/-- One Bus clock of the APU (R463, R466, R480, R492, R502, R503): the divider by six; on every third clock the triangle's
timer and the frame sequencer, whose events come at the counts of its mode; on every sixth the pulse and noise timers, the
noise timer reloaded from the periods written out here. Nothing else changes, and the noise register is never 0. -/
def Obligations.ApuClocking : Prop :=
  ∀ a : Apu,
    let b := a.clock
    let n := a.frameCounter + 1
    let quarter := n = 7457 ∨ n = 22371
    let half := n = 14913 ∨ n = if a.frameMode then 37281 else 29829
    let period := if a.frameMode then 37282 else 29830
    let noisePeriods := [4, 8, 16, 32, 64, 96, 128, 160, 202, 254, 380, 508, 762, 1016, 2034, 4068]
    let t := a.triangle
    let t' : Triangle :=
      if t.timer = 0#11 then
        { t with
          timer := t.timerPeriod
          step := if 0 < t.length.toNat ∧ 0 < t.linCounter.toNat then t.step + 1#5 else t.step }
      else { t with timer := t.timer - 1#11 }
    let cpuRate : Apu :=
      if quarter then { a with triangle := t' }.quarterFrame
      else if half then { a with triangle := t' }.quarterFrame.halfFrame
      else { a with triangle := t' }
    let pulse (p : Pulse) : Pulse :=
      if p.timer = 0#11 then { p with timer := p.timerPeriod, seq := p.seq + 1#3 } else { p with timer := p.timer - 1#11 }
    b.div = (a.div + 1) % 6 ∧
      (a.div % 3 ≠ 0 → b = { a with div := (a.div + 1) % 6 }) ∧
        (a.div % 3 = 0 → b.frameCounter = if n = period then 0 else n) ∧
          (a.div % 3 = 0 → b.triangle = cpuRate.triangle) ∧
            (a.div % 3 = 0 → a.div ≠ 0 → b.pulse1 = cpuRate.pulse1 ∧ b.pulse2 = cpuRate.pulse2 ∧ b.noise = cpuRate.noise) ∧
              (a.div = 0 →
                b.pulse1 = pulse cpuRate.pulse1 ∧
                  b.pulse2 = pulse cpuRate.pulse2 ∧
                    b.noise =
                      if a.noise.timer ≠ 0#12 then { cpuRate.noise with timer := a.noise.timer - 1#12 }
                      else
                        { cpuRate.noise with
                          timer := BitVec.ofNat 12 (noisePeriods.getD a.noise.periodIndex.toNat 0 / 2 - 1)
                          lfsr :=
                            (a.noise.lfsr >>> 1) |||
                              if a.noise.lfsr.getLsbD 0 != a.noise.lfsr.getLsbD (if a.noise.mode then 6 else 1) then
                                0x4000#15
                              else 0#15 }) ∧
                (b.frameMode = a.frameMode ∧ b.irqInhibit = a.irqInhibit) ∧ (a.noise.lfsr ≠ 0#15 → b.noise.lfsr ≠ 0#15)

/-- The four channel outputs (R481 to R483, R488, R494, R504), with the duty and triangle tables written out, and the mixer
(R520): the two terms of the formula, and a sample in [0, 1). -/
def Obligations.MixedSample : Prop :=
  ∀ a : Apu,
    let p : Rat := (a.pulse1.out true + a.pulse2.out false : Nat)
    let t : Rat := (a.triangle.out : Nat)
    let n : Rat := (a.noise.out : Nat)
    let duties : List (List Nat) :=
      [[0, 1, 0, 0, 0, 0, 0, 0], [0, 1, 1, 0, 0, 0, 0, 0], [0, 1, 1, 1, 1, 0, 0, 0], [1, 0, 0, 1, 1, 1, 1, 1]]
    let triangles : List Nat :=
      [15, 14, 13, 12, 11, 10, 9, 8, 7, 6, 5, 4, 3, 2, 1, 0, 0, 1, 2, 3, 4, 5, 6, 7, 8, 9, 10, 11, 12, 13, 14, 15]
    let volume (constVol : Bool) (vol decay : BitVec 4) : Nat := if constVol then vol.toNat else decay.toNat
    let pulse (first : Bool) (p : Pulse) : Nat :=
      let change := p.timerPeriod.toNat / 2 ^ p.swShift.toNat
      let target :=
        if p.swNegate then p.timerPeriod.toNat - (change + if first then 1 else 0) else p.timerPeriod.toNat + change
      if p.length = 0#8 ∨ (duties.getD p.duty.toNat []).getD p.seq.toNat 0 = 0 ∨ p.timerPeriod.toNat < 8 ∨ 0x7FF < target
      then 0
      else volume p.constVol p.vol p.env.decay
    (a.pulse1.out true = pulse true a.pulse1 ∧
        a.pulse2.out false = pulse false a.pulse2 ∧
          a.triangle.out = triangles.getD a.triangle.step.toNat 0 ∧
            a.noise.out =
              if a.noise.lfsr.getLsbD 0 = true ∨ a.noise.length = 0#8 then 0
              else volume a.noise.constVol a.noise.vol a.noise.env.decay) ∧
    a.pulse1.out true ≤ 15 ∧
      a.pulse2.out false ≤ 15 ∧
        a.triangle.out ≤ 15 ∧
          a.noise.out ≤ 15 ∧
            a.mix =
                (if p = 0 then 0 else (9588 / 100) / (8128 / p + 100)) +
                  (if t = 0 ∧ n = 0 then 0 else (15979 / 100) / (1 / (t / 8227 + n / 12241) + 100)) ∧
              0 ≤ a.mix ∧ a.mix < 1

/-- The sample divider (R365): over any run of steps the number of completed samples is the exact quotient. -/
def Obligations.SampleCount : Prop :=
  ∀ (n : Nat) (s : State),
    s.Inv → samplesIn n s = (s.bus.sampleAcc + n * Config.sampleRateHz) / 5369318

/-! ## The cartridge -/

/-- The baseline mapper on the CPU side (R79, R546): one bank is seen twice, two or more linearly; 0x4020 to 0x7FFF and a
machine with no cartridge read 0x00. -/
def Obligations.MapperReads : Prop :=
  ∀ (s : State) (a : Word),
    0x4020 ≤ a.toNat →
      (s.cart = none → peek a s = 0x00#8) ∧
        ∀ c,
          s.cart = some c →
            (a.toNat < 0x8000 → peek a s = 0x00#8) ∧
              (0x8000 ≤ a.toNat → c.prgBanks ≤ 1 → peek a s = Memory.read c.prg (a &&& 0x3FFF#16).toNat) ∧
                (0x8000 ≤ a.toNat → 1 < c.prgBanks → peek a s = Memory.read c.prg (a &&& 0x7FFF#16).toNat)

/-- Loading (R542 to R544): the checks in the rule's order; an error changes nothing; a loaded cartridge holds the bytes
of the image. The two clauses on CHR RAM and on the four-screen RAM are the model's choice (log 14), no rule of the spec:
their open contents are arguments. -/
def Obligations.InsertCartridge : Prop :=
  ∀ (image chrRam ntExt : List Byte) (s : State),
    let load := insertCartridge (some image) (Memory.ofBytes chrRam) (Memory.ofBytes ntExt) s
    let at' (i : Nat) : Byte := image.getD i 0#8
    let o := if (at' 6).getLsbD 2 then 528 else 16
    let prg := 16384 * (at' 4).toNat
    let chr := 8192 * (at' 5).toNat
    let magic := at' 0 = 0x4E#8 ∧ at' 1 = 0x45#8 ∧ at' 2 = 0x53#8 ∧ at' 3 = 0x1A#8
    let mapper := (at' 7 &&& 0xF0#8) ||| (at' 6 >>> 4)
    insertCartridge none (Memory.ofBytes chrRam) (Memory.ofBytes ntExt) s = (.error .missingFile, s) ∧
      (image.length < 16 → load = (.error .truncated, s)) ∧
        (16 ≤ image.length → ¬magic → load = (.error .badMagic, s)) ∧
          (16 ≤ image.length → magic → image.length < o + prg + chr → load = (.error .truncated, s)) ∧
            (16 ≤ image.length → magic → o + prg + chr ≤ image.length → at' 4 = 0#8 → load = (.error .noProgram, s)) ∧
              (16 ≤ image.length → magic → o + prg + chr ≤ image.length → at' 4 ≠ 0#8 → mapper ≠ 0#8 →
                load = (.error (.unsupportedMapper mapper), s)) ∧
                (16 ≤ image.length → magic → o + prg + chr ≤ image.length → at' 4 ≠ 0#8 → mapper = 0#8 →
                  ∃ c,
                    load = (.ok (), { s with cart := some c }) ∧
                      c.prgBanks = (at' 4).toNat ∧
                        c.chrBanks = (at' 5).toNat ∧
                          c.mapperId = 0#8 ∧
                            c.battery = (at' 6).getLsbD 1 ∧
                              c.mirroring =
                                  (if (at' 6).getLsbD 3 then .fourScreen
                                  else if (at' 6).getLsbD 0 then .vertical else .horizontal) ∧
                                (∀ i, i < prg → Memory.read c.prg i = at' (o + i)) ∧
                                  (∀ i, at' 5 ≠ 0#8 → i < chr → Memory.read c.chr i = at' (o + prg + i)) ∧
                                    (at' 5 = 0#8 → c.chr = Memory.ofBytes chrRam) ∧
                                      (c.mirroring = .fourScreen → c.ntExt = Memory.ofBytes ntExt))

/-! ## The invariant -/

/-- The machine right after reset meets the invariant. The register and memory contents of that state are the model's
choice (log entries 1 to 3); the statement holds for any of them. -/
def Obligations.ResetMeetsInvariant : Prop :=
  State.reset.Inv ∧
    ∀ (r : ResetValues) (s : State),
      Memory.Inv 2048 s.bus.ram → Memory.Inv 2048 s.ppu.vram → Memory.Inv 32 s.ppu.palette → Memory.Inv 256 s.ppu.oam →
        s.ppu.frame.wf = true → (∀ c, s.cart = some c → c.Inv) → (busReset r s).Inv

/-- Every step keeps the invariant, from every state that meets it (R62). -/
def Obligations.StepKeepsInvariant : Prop :=
  ∀ s t : State, s.Inv → step s = .next t → t.Inv

/-- Every operation of the host that can change the machine (R341, R94) completes and keeps the invariant: the clock, reset,
a cartridge loaded from any file, the controller latches, bus accesses, the frame flag. The open contents of CHR RAM and
four-screen RAM (log 14) are any well-formed memories of their sizes. -/
def Obligations.HostKeepsInvariant : Prop :=
  ∀ (op : HostOp) (s : State), s.Inv → op.Sized → ∃ t, hostStep op s = .next t ∧ t.Inv
end

