-- ==== Sys2Proof/Laws/Memory.lean ====
section
/-! SUPPORT. The laws of sparse tables: a read after a write, the canonical form kept by every operation, and equal
contents being equal tables. -/

namespace Sys2Proof.Laws

open Sys2Proof.Machine

variable {α : Type} {d : α}

@[simp] theorem sparseRead_nil (i : Nat) : sparseRead d [] i = d := rfl

theorem sparseRead_cons (k : Nat) (u : α) (m : List (Nat × α)) (i : Nat) :
    sparseRead d ((k, u) :: m) i = if i = k then u else sparseRead d m i := rfl

variable [DecidableEq α]

theorem sparseRising_mono {lo lo' : Nat} {m : List (Nat × α)} (h : lo' ≤ lo) (hm : sparseRising d lo m = true) :
    sparseRising d lo' m = true := by
  cases m with
  | nil => rfl
  | cons e m =>
    simp only [sparseRising, Bool.and_eq_true, decide_eq_true_eq] at hm ⊢
    exact ⟨⟨by omega, hm.1.2⟩, hm.2⟩

/-- Below its first key a table reads as the default. -/
theorem sparseRead_below {lo i : Nat} {m : List (Nat × α)} (hm : sparseRising d lo m = true) (h : i < lo) :
    sparseRead d m i = d := by
  induction m generalizing lo with
  | nil => rfl
  | cons e m ih =>
    obtain ⟨k, u⟩ := e
    simp only [sparseRising, Bool.and_eq_true, decide_eq_true_eq] at hm
    rw [sparseRead_cons, if_neg (by omega)]
    exact ih hm.2 (by omega)

theorem sparseRead_sparseCons (i : Nat) (v : α) (m : List (Nat × α)) (j : Nat) (hm : v = d → sparseRead d m i = d) :
    sparseRead d (sparseCons d i v m) j = if j = i then v else sparseRead d m j := by
  unfold sparseCons
  split
  · next hv => subst hv; split
               · next h => subst h; exact hm rfl
               · rfl
  · rfl

/-- A write leaves every other key alone. -/
theorem sparseRead_write_other {i j : Nat} (v : α) (m : List (Nat × α)) (h : j ≠ i) :
    sparseRead d (sparseWrite d m i v) j = sparseRead d m j := by
  induction m with
  | nil => unfold sparseWrite sparseCons; split <;> simp [sparseRead, h]
  | cons e m ih =>
    obtain ⟨k, u⟩ := e
    unfold sparseWrite
    split
    · unfold sparseCons; split <;> simp [sparseRead, h]
    · split
      · next hk => subst hk; unfold sparseCons; split <;> simp [sparseRead, h]
      · simp [sparseRead, ih]

/-- A read after a write to the same key gives the value written. -/
theorem sparseRead_write_same {lo i : Nat} (v : α) {m : List (Nat × α)} (hm : sparseRising d lo m = true) :
    sparseRead d (sparseWrite d m i v) i = v := by
  induction m generalizing lo with
  | nil =>
    rw [sparseWrite, sparseRead_sparseCons _ _ _ _ fun _ => rfl, if_pos rfl]
  | cons e m ih =>
    obtain ⟨k, u⟩ := e
    have hm' := hm
    simp only [sparseRising, Bool.and_eq_true, decide_eq_true_eq] at hm'
    unfold sparseWrite
    split
    · next hk =>
      rw [sparseRead_sparseCons]
      · simp
      · intro _
        rw [sparseRead_cons, if_neg (by omega)]
        exact sparseRead_below hm'.2 (by omega)
    · split
      · next hk =>
        subst hk
        rw [sparseRead_sparseCons]
        · simp
        · intro _; exact sparseRead_below hm'.2 (by omega)
      · next hk => rw [sparseRead_cons, if_neg hk]; exact ih hm'.2

theorem sparseRising_sparseCons {lo i : Nat} (v : α) {m : List (Nat × α)} (hm : sparseRising d (i + 1) m = true)
    (h : lo ≤ i) : sparseRising d lo (sparseCons d i v m) = true := by
  unfold sparseCons
  split
  · exact sparseRising_mono (by omega) hm
  · next hv => simp [sparseRising, h, hv, hm]

/-- A write keeps the canonical form. -/
theorem sparseRising_write {lo i : Nat} (v : α) {m : List (Nat × α)} (hm : sparseRising d lo m = true) (h : lo ≤ i) :
    sparseRising d lo (sparseWrite d m i v) = true := by
  induction m generalizing lo with
  | nil => unfold sparseWrite; exact sparseRising_sparseCons v rfl h
  | cons e m ih =>
    obtain ⟨k, u⟩ := e
    have hm' := hm
    simp only [sparseRising, Bool.and_eq_true, decide_eq_true_eq] at hm'
    unfold sparseWrite
    split
    · next hk =>
      refine sparseRising_sparseCons v ?_ h
      simp only [sparseRising, Bool.and_eq_true, decide_eq_true_eq]
      exact ⟨⟨by omega, hm'.1.2⟩, hm'.2⟩
    · split
      · next hk => subst hk; exact sparseRising_sparseCons v hm'.2 h
      · next hk hk' =>
        simp only [sparseRising, Bool.and_eq_true, decide_eq_true_eq]
        exact ⟨hm'.1, ih hm'.2 (by omega)⟩

theorem sparseBelow_sparseCons {n i : Nat} (v : α) {m : List (Nat × α)} (hm : sparseBelow n m = true) (h : i < n) :
    sparseBelow n (sparseCons d i v m) = true := by
  unfold sparseCons
  split
  · exact hm
  · simp only [sparseBelow, List.all_cons, Bool.and_eq_true, decide_eq_true_eq] at hm ⊢
    exact ⟨h, hm⟩

/-- A write below the size lists nothing beyond it. -/
theorem sparseBelow_write {n i : Nat} (v : α) {m : List (Nat × α)} (hm : sparseBelow n m = true) (h : i < n) :
    sparseBelow n (sparseWrite d m i v) = true := by
  induction m with
  | nil => unfold sparseWrite; exact sparseBelow_sparseCons v rfl h
  | cons e m ih =>
    obtain ⟨k, u⟩ := e
    have hm' := hm
    simp only [sparseBelow, List.all_cons, Bool.and_eq_true, decide_eq_true_eq] at hm'
    unfold sparseWrite
    split
    · exact sparseBelow_sparseCons v hm h
    · split
      · exact sparseBelow_sparseCons v hm'.2 h
      · simp only [sparseBelow, List.all_cons, Bool.and_eq_true, decide_eq_true_eq]
        exact ⟨hm'.1, ih hm'.2⟩

/-- Equal contents are equal tables. -/
theorem sparse_ext {lo : Nat} {m m' : List (Nat × α)} (hm : sparseRising d lo m = true)
    (hm' : sparseRising d lo m' = true) (h : ∀ i, sparseRead d m i = sparseRead d m' i) : m = m' := by
  induction m generalizing lo m' with
  | nil =>
    cases m' with
    | nil => rfl
    | cons e m' =>
      obtain ⟨k, u⟩ := e
      simp only [sparseRising, Bool.and_eq_true, decide_eq_true_eq] at hm'
      have := h k
      simp [sparseRead] at this
      exact absurd this.symm hm'.1.2
  | cons e m ih =>
    obtain ⟨k, u⟩ := e
    simp only [sparseRising, Bool.and_eq_true, decide_eq_true_eq] at hm
    cases m' with
    | nil =>
      have := h k
      simp [sparseRead] at this
      exact absurd this hm.1.2
    | cons e' m' =>
      obtain ⟨k', u'⟩ := e'
      simp only [sparseRising, Bool.and_eq_true, decide_eq_true_eq] at hm'
      have hk : k = k' := by
        rcases Nat.lt_trichotomy k k' with hlt | heq | hgt
        · have := h k
          rw [sparseRead_cons, if_pos rfl, sparseRead_cons, if_neg (by omega), sparseRead_below hm'.2 (by omega)] at this
          exact absurd this hm.1.2
        · exact heq
        · have := h k'
          rw [sparseRead_cons, if_neg (by omega), sparseRead_cons, if_pos rfl, sparseRead_below hm.2 (by omega)] at this
          exact absurd this.symm hm'.1.2
      subst hk
      have hu : u = u' := by simpa [sparseRead] using h k
      subst hu
      have := ih hm.2 hm'.2 fun i => by
        by_cases hi : i = k
        · subst hi; rw [sparseRead_below hm.2 (by omega), sparseRead_below hm'.2 (by omega)]
        · simpa [sparseRead, hi] using h i
      rw [this]

theorem sparseRising_ofList (l : List α) (i : Nat) : sparseRising d i (sparseOfList d i l) = true := by
  induction l generalizing i with
  | nil => rfl
  | cons v l ih => exact sparseRising_sparseCons v (ih (i + 1)) (Nat.le_refl i)

theorem sparseBelow_ofList (l : List α) (i n : Nat) (h : i + l.length ≤ n) :
    sparseBelow n (sparseOfList d i l) = true := by
  induction l generalizing i with
  | nil => rfl
  | cons v l ih =>
    simp only [List.length_cons] at h
    exact sparseBelow_sparseCons v (ih (i + 1) (by omega)) (by omega)

/-- The table of a list holds the list. -/
theorem sparseRead_ofList (l : List α) (i j : Nat) :
    sparseRead d (sparseOfList d i l) j = if i ≤ j then l.getD (j - i) d else d := by
  induction l generalizing i j with
  | nil => simp [sparseOfList]
  | cons v l ih =>
    have hlow : sparseRead d (sparseOfList d (i + 1) l) i = d := by rw [ih, if_neg (by omega)]
    rw [sparseOfList, sparseRead_sparseCons _ _ _ _ (fun _ => hlow), ih]
    by_cases hj : j = i
    · subst hj; simp
    · rw [if_neg hj]
      by_cases hij : i ≤ j
      · rw [if_pos hij, if_pos (by omega)]
        obtain ⟨c, rfl⟩ : ∃ c, j = i + 1 + c := ⟨j - (i + 1), by omega⟩
        have : i + 1 + c - i = c + 1 := by omega
        rw [this]; simp
      · rw [if_neg hij, if_neg (by omega)]

/-- A read after a write to the same address gives the byte written. -/
theorem memory_read_write_same {m : Memory} (hm : m.wf = true) (i : Nat) (v : Byte) : (m.write i v).read i = v :=
  sparseRead_write_same v hm

/-- A write leaves every other address alone. -/
theorem memory_read_write_other (m : Memory) {i j : Nat} (v : Byte) (h : j ≠ i) : (m.write i v).read j = m.read j :=
  sparseRead_write_other v m h

/-- A write keeps the canonical form. -/
theorem memory_wf_write {m : Memory} (hm : m.wf = true) (i : Nat) (v : Byte) : (m.write i v).wf = true :=
  sparseRising_write v hm (Nat.zero_le i)

theorem memory_within_write {m : Memory} {n i : Nat} (hm : m.within n = true) (h : i < n) (v : Byte) :
    (m.write i v).within n = true := sparseBelow_write v hm h

/-- A write inside a memory keeps its invariant. -/
theorem memory_inv_write {m : Memory} {n i : Nat} (hm : m.Inv n) (h : i < n) (v : Byte) : Memory.Inv n (m.write i v) :=
  ⟨memory_wf_write hm.wf i v, memory_within_write hm.within h v⟩

/-- Equal contents are equal memories. -/
theorem memory_ext {m m' : Memory} (hm : m.wf = true) (hm' : m'.wf = true) (h : ∀ i, m.read i = m'.read i) : m = m' :=
  sparse_ext hm hm' h

theorem memory_inv_nil (n : Nat) : Memory.Inv n [] := ⟨rfl, rfl⟩

/-- The memory of a list of bytes is canonical and lists nothing beyond the list. -/
theorem memory_inv_ofBytes (l : List Byte) {n : Nat} (h : l.length ≤ n) : Memory.Inv n (Memory.ofBytes l) :=
  ⟨sparseRising_ofList l 0, sparseBelow_ofList l 0 n (by omega)⟩

theorem memory_read_ofBytes (l : List Byte) (i : Nat) : (Memory.ofBytes l).read i = l.getD i 0#8 := by
  simp [Memory.read, Memory.ofBytes, sparseRead_ofList, Memory.unlisted]

/-- The rows of a well-formed frame buffer are well formed. -/
theorem frame_row {f : Frame} (hf : f.wf = true) (y : Nat) :
    sparseRising Frame.unlisted 0 (sparseRead [] f y) = true ∧ sparseBelow 256 (sparseRead [] f y) = true := by
  simp only [Frame.wf, Bool.and_eq_true] at hf
  obtain ⟨-, hall⟩ := hf
  induction f with
  | nil => exact ⟨rfl, rfl⟩
  | cons e f ih =>
    obtain ⟨k, u⟩ := e
    simp only [List.all_cons, Bool.and_eq_true] at hall
    rw [sparseRead_cons]
    split
    · exact hall.1
    · exact ih hall.2

theorem frame_read_write_same {f : Frame} (hf : f.wf = true) (y x : Nat) (v : BitVec 6) :
    (f.write y x v).read y x = v := by
  have h0 : sparseRising [] 0 f = true := by simp only [Frame.wf, Bool.and_eq_true] at hf; exact hf.1.1
  unfold Frame.read Frame.write
  rw [sparseRead_write_same _ h0, sparseRead_write_same _ (frame_row hf y).1]

theorem frame_read_write_other {f : Frame} (hf : f.wf = true) {y x y' x' : Nat} (v : BitVec 6)
    (h : y' ≠ y ∨ x' ≠ x) : (f.write y x v).read y' x' = f.read y' x' := by
  have h0 : sparseRising [] 0 f = true := by simp only [Frame.wf, Bool.and_eq_true] at hf; exact hf.1.1
  unfold Frame.read Frame.write
  by_cases hy : y' = y
  · subst hy
    rw [sparseRead_write_same _ h0, sparseRead_write_other]
    omega
  · rw [sparseRead_write_other _ _ hy]

theorem all_sparseCons (q : Nat × α → Bool) (i : Nat) (v : α) (m : List (Nat × α)) (hm : m.all q = true)
    (hv : q (i, v) = true) : (sparseCons d i v m).all q = true := by
  unfold sparseCons
  split
  · exact hm
  · rw [List.all_cons, hv, hm]; rfl

theorem all_sparseWrite (q : Nat × α → Bool) (i : Nat) (v : α) (m : List (Nat × α)) (hm : m.all q = true)
    (hv : q (i, v) = true) : (sparseWrite d m i v).all q = true := by
  induction m with
  | nil => exact all_sparseCons q i v [] rfl hv
  | cons e m ih =>
    obtain ⟨k, u⟩ := e
    have hm' := hm
    rw [List.all_cons, Bool.and_eq_true] at hm'
    unfold sparseWrite
    split
    · exact all_sparseCons q i v _ hm hv
    · split
      · exact all_sparseCons q i v _ hm'.2 hv
      · rw [List.all_cons, hm'.1, ih hm'.2]; rfl

/-- Writing a pixel inside the screen keeps the frame buffer's canonical form. -/
theorem frame_wf_write {f : Frame} (hf : f.wf = true) {y x : Nat} (hy : y < 240) (hx : x < 256) (v : BitVec 6) :
    (f.write y x v).wf = true := by
  have hrow := frame_row hf y
  simp only [Frame.wf, Bool.and_eq_true] at hf ⊢
  refine ⟨⟨sparseRising_write _ hf.1.1 (Nat.zero_le y), sparseBelow_write _ hf.1.2 hy⟩, ?_⟩
  refine all_sparseWrite _ y _ f hf.2 ?_
  rw [Bool.and_eq_true]
  exact ⟨sparseRising_write _ hrow.1 (Nat.zero_le x), sparseBelow_write _ hrow.2 hx⟩
end Sys2Proof.Laws
end

