-- ==== Sys2Proof/Laws/State.lean ====
section
/-! SUPPORT. One lemma per field per register update, all true by unfolding, so that no later proof unfolds a record. -/

namespace Sys2Proof.Laws

open Sys2Proof.Machine

@[simp] theorem setA_cpu_a (v : Byte) (s : State) : (setA v s).cpu.a = v := rfl
@[simp] theorem setA_cpu_x (v : Byte) (s : State) : (setA v s).cpu.x = s.cpu.x := rfl
@[simp] theorem setA_cpu_y (v : Byte) (s : State) : (setA v s).cpu.y = s.cpu.y := rfl
@[simp] theorem setA_cpu_sp (v : Byte) (s : State) : (setA v s).cpu.sp = s.cpu.sp := rfl
@[simp] theorem setA_cpu_pc (v : Byte) (s : State) : (setA v s).cpu.pc = s.cpu.pc := rfl
@[simp] theorem setA_cpu_p (v : Byte) (s : State) : (setA v s).cpu.p = s.cpu.p := rfl
@[simp] theorem setA_cpu_cycles (v : Byte) (s : State) : (setA v s).cpu.cycles = s.cpu.cycles := rfl
@[simp] theorem setA_cpu_clockCount (v : Byte) (s : State) : (setA v s).cpu.clockCount = s.cpu.clockCount := rfl
@[simp] theorem setA_bus (v : Byte) (s : State) : (setA v s).bus = s.bus := rfl
@[simp] theorem setA_ppu (v : Byte) (s : State) : (setA v s).ppu = s.ppu := rfl
@[simp] theorem setA_apu (v : Byte) (s : State) : (setA v s).apu = s.apu := rfl
@[simp] theorem setA_cart (v : Byte) (s : State) : (setA v s).cart = s.cart := rfl
@[simp] theorem setX_cpu_a (v : Byte) (s : State) : (setX v s).cpu.a = s.cpu.a := rfl
@[simp] theorem setX_cpu_x (v : Byte) (s : State) : (setX v s).cpu.x = v := rfl
@[simp] theorem setX_cpu_y (v : Byte) (s : State) : (setX v s).cpu.y = s.cpu.y := rfl
@[simp] theorem setX_cpu_sp (v : Byte) (s : State) : (setX v s).cpu.sp = s.cpu.sp := rfl
@[simp] theorem setX_cpu_pc (v : Byte) (s : State) : (setX v s).cpu.pc = s.cpu.pc := rfl
@[simp] theorem setX_cpu_p (v : Byte) (s : State) : (setX v s).cpu.p = s.cpu.p := rfl
@[simp] theorem setX_cpu_cycles (v : Byte) (s : State) : (setX v s).cpu.cycles = s.cpu.cycles := rfl
@[simp] theorem setX_cpu_clockCount (v : Byte) (s : State) : (setX v s).cpu.clockCount = s.cpu.clockCount := rfl
@[simp] theorem setX_bus (v : Byte) (s : State) : (setX v s).bus = s.bus := rfl
@[simp] theorem setX_ppu (v : Byte) (s : State) : (setX v s).ppu = s.ppu := rfl
@[simp] theorem setX_apu (v : Byte) (s : State) : (setX v s).apu = s.apu := rfl
@[simp] theorem setX_cart (v : Byte) (s : State) : (setX v s).cart = s.cart := rfl
@[simp] theorem setY_cpu_a (v : Byte) (s : State) : (setY v s).cpu.a = s.cpu.a := rfl
@[simp] theorem setY_cpu_x (v : Byte) (s : State) : (setY v s).cpu.x = s.cpu.x := rfl
@[simp] theorem setY_cpu_y (v : Byte) (s : State) : (setY v s).cpu.y = v := rfl
@[simp] theorem setY_cpu_sp (v : Byte) (s : State) : (setY v s).cpu.sp = s.cpu.sp := rfl
@[simp] theorem setY_cpu_pc (v : Byte) (s : State) : (setY v s).cpu.pc = s.cpu.pc := rfl
@[simp] theorem setY_cpu_p (v : Byte) (s : State) : (setY v s).cpu.p = s.cpu.p := rfl
@[simp] theorem setY_cpu_cycles (v : Byte) (s : State) : (setY v s).cpu.cycles = s.cpu.cycles := rfl
@[simp] theorem setY_cpu_clockCount (v : Byte) (s : State) : (setY v s).cpu.clockCount = s.cpu.clockCount := rfl
@[simp] theorem setY_bus (v : Byte) (s : State) : (setY v s).bus = s.bus := rfl
@[simp] theorem setY_ppu (v : Byte) (s : State) : (setY v s).ppu = s.ppu := rfl
@[simp] theorem setY_apu (v : Byte) (s : State) : (setY v s).apu = s.apu := rfl
@[simp] theorem setY_cart (v : Byte) (s : State) : (setY v s).cart = s.cart := rfl
@[simp] theorem setSP_cpu_a (v : Byte) (s : State) : (setSP v s).cpu.a = s.cpu.a := rfl
@[simp] theorem setSP_cpu_x (v : Byte) (s : State) : (setSP v s).cpu.x = s.cpu.x := rfl
@[simp] theorem setSP_cpu_y (v : Byte) (s : State) : (setSP v s).cpu.y = s.cpu.y := rfl
@[simp] theorem setSP_cpu_sp (v : Byte) (s : State) : (setSP v s).cpu.sp = v := rfl
@[simp] theorem setSP_cpu_pc (v : Byte) (s : State) : (setSP v s).cpu.pc = s.cpu.pc := rfl
@[simp] theorem setSP_cpu_p (v : Byte) (s : State) : (setSP v s).cpu.p = s.cpu.p := rfl
@[simp] theorem setSP_cpu_cycles (v : Byte) (s : State) : (setSP v s).cpu.cycles = s.cpu.cycles := rfl
@[simp] theorem setSP_cpu_clockCount (v : Byte) (s : State) : (setSP v s).cpu.clockCount = s.cpu.clockCount := rfl
@[simp] theorem setSP_bus (v : Byte) (s : State) : (setSP v s).bus = s.bus := rfl
@[simp] theorem setSP_ppu (v : Byte) (s : State) : (setSP v s).ppu = s.ppu := rfl
@[simp] theorem setSP_apu (v : Byte) (s : State) : (setSP v s).apu = s.apu := rfl
@[simp] theorem setSP_cart (v : Byte) (s : State) : (setSP v s).cart = s.cart := rfl
@[simp] theorem setPC_cpu_a (v : Word) (s : State) : (setPC v s).cpu.a = s.cpu.a := rfl
@[simp] theorem setPC_cpu_x (v : Word) (s : State) : (setPC v s).cpu.x = s.cpu.x := rfl
@[simp] theorem setPC_cpu_y (v : Word) (s : State) : (setPC v s).cpu.y = s.cpu.y := rfl
@[simp] theorem setPC_cpu_sp (v : Word) (s : State) : (setPC v s).cpu.sp = s.cpu.sp := rfl
@[simp] theorem setPC_cpu_pc (v : Word) (s : State) : (setPC v s).cpu.pc = v := rfl
@[simp] theorem setPC_cpu_p (v : Word) (s : State) : (setPC v s).cpu.p = s.cpu.p := rfl
@[simp] theorem setPC_cpu_cycles (v : Word) (s : State) : (setPC v s).cpu.cycles = s.cpu.cycles := rfl
@[simp] theorem setPC_cpu_clockCount (v : Word) (s : State) : (setPC v s).cpu.clockCount = s.cpu.clockCount := rfl
@[simp] theorem setPC_bus (v : Word) (s : State) : (setPC v s).bus = s.bus := rfl
@[simp] theorem setPC_ppu (v : Word) (s : State) : (setPC v s).ppu = s.ppu := rfl
@[simp] theorem setPC_apu (v : Word) (s : State) : (setPC v s).apu = s.apu := rfl
@[simp] theorem setPC_cart (v : Word) (s : State) : (setPC v s).cart = s.cart := rfl
@[simp] theorem setP_cpu_a (v : Byte) (s : State) : (setP v s).cpu.a = s.cpu.a := rfl
@[simp] theorem setP_cpu_x (v : Byte) (s : State) : (setP v s).cpu.x = s.cpu.x := rfl
@[simp] theorem setP_cpu_y (v : Byte) (s : State) : (setP v s).cpu.y = s.cpu.y := rfl
@[simp] theorem setP_cpu_sp (v : Byte) (s : State) : (setP v s).cpu.sp = s.cpu.sp := rfl
@[simp] theorem setP_cpu_pc (v : Byte) (s : State) : (setP v s).cpu.pc = s.cpu.pc := rfl
@[simp] theorem setP_cpu_p (v : Byte) (s : State) : (setP v s).cpu.p = v := rfl
@[simp] theorem setP_cpu_cycles (v : Byte) (s : State) : (setP v s).cpu.cycles = s.cpu.cycles := rfl
@[simp] theorem setP_cpu_clockCount (v : Byte) (s : State) : (setP v s).cpu.clockCount = s.cpu.clockCount := rfl
@[simp] theorem setP_bus (v : Byte) (s : State) : (setP v s).bus = s.bus := rfl
@[simp] theorem setP_ppu (v : Byte) (s : State) : (setP v s).ppu = s.ppu := rfl
@[simp] theorem setP_apu (v : Byte) (s : State) : (setP v s).apu = s.apu := rfl
@[simp] theorem setP_cart (v : Byte) (s : State) : (setP v s).cart = s.cart := rfl
@[simp] theorem setCycles_cpu_a (v : Nat) (s : State) : (setCycles v s).cpu.a = s.cpu.a := rfl
@[simp] theorem setCycles_cpu_x (v : Nat) (s : State) : (setCycles v s).cpu.x = s.cpu.x := rfl
@[simp] theorem setCycles_cpu_y (v : Nat) (s : State) : (setCycles v s).cpu.y = s.cpu.y := rfl
@[simp] theorem setCycles_cpu_sp (v : Nat) (s : State) : (setCycles v s).cpu.sp = s.cpu.sp := rfl
@[simp] theorem setCycles_cpu_pc (v : Nat) (s : State) : (setCycles v s).cpu.pc = s.cpu.pc := rfl
@[simp] theorem setCycles_cpu_p (v : Nat) (s : State) : (setCycles v s).cpu.p = s.cpu.p := rfl
@[simp] theorem setCycles_cpu_cycles (v : Nat) (s : State) : (setCycles v s).cpu.cycles = v := rfl
@[simp] theorem setCycles_cpu_clockCount (v : Nat) (s : State) : (setCycles v s).cpu.clockCount = s.cpu.clockCount := rfl
@[simp] theorem setCycles_bus (v : Nat) (s : State) : (setCycles v s).bus = s.bus := rfl
@[simp] theorem setCycles_ppu (v : Nat) (s : State) : (setCycles v s).ppu = s.ppu := rfl
@[simp] theorem setCycles_apu (v : Nat) (s : State) : (setCycles v s).apu = s.apu := rfl
@[simp] theorem setCycles_cart (v : Nat) (s : State) : (setCycles v s).cart = s.cart := rfl
@[simp] theorem setClockCount_cpu_a (v : Nat) (s : State) : (setClockCount v s).cpu.a = s.cpu.a := rfl
@[simp] theorem setClockCount_cpu_x (v : Nat) (s : State) : (setClockCount v s).cpu.x = s.cpu.x := rfl
@[simp] theorem setClockCount_cpu_y (v : Nat) (s : State) : (setClockCount v s).cpu.y = s.cpu.y := rfl
@[simp] theorem setClockCount_cpu_sp (v : Nat) (s : State) : (setClockCount v s).cpu.sp = s.cpu.sp := rfl
@[simp] theorem setClockCount_cpu_pc (v : Nat) (s : State) : (setClockCount v s).cpu.pc = s.cpu.pc := rfl
@[simp] theorem setClockCount_cpu_p (v : Nat) (s : State) : (setClockCount v s).cpu.p = s.cpu.p := rfl
@[simp] theorem setClockCount_cpu_cycles (v : Nat) (s : State) : (setClockCount v s).cpu.cycles = s.cpu.cycles := rfl
@[simp] theorem setClockCount_cpu_clockCount (v : Nat) (s : State) : (setClockCount v s).cpu.clockCount = v := rfl
@[simp] theorem setClockCount_bus (v : Nat) (s : State) : (setClockCount v s).bus = s.bus := rfl
@[simp] theorem setClockCount_ppu (v : Nat) (s : State) : (setClockCount v s).ppu = s.ppu := rfl
@[simp] theorem setClockCount_apu (v : Nat) (s : State) : (setClockCount v s).apu = s.apu := rfl
@[simp] theorem setClockCount_cart (v : Nat) (s : State) : (setClockCount v s).cart = s.cart := rfl
@[simp] theorem setNZOf_cpu_a (v : Byte) (s : State) : (setNZOf v s).cpu.a = s.cpu.a := rfl
@[simp] theorem setNZOf_cpu_x (v : Byte) (s : State) : (setNZOf v s).cpu.x = s.cpu.x := rfl
@[simp] theorem setNZOf_cpu_y (v : Byte) (s : State) : (setNZOf v s).cpu.y = s.cpu.y := rfl
@[simp] theorem setNZOf_cpu_sp (v : Byte) (s : State) : (setNZOf v s).cpu.sp = s.cpu.sp := rfl
@[simp] theorem setNZOf_cpu_pc (v : Byte) (s : State) : (setNZOf v s).cpu.pc = s.cpu.pc := rfl
@[simp] theorem setNZOf_cpu_p (v : Byte) (s : State) : (setNZOf v s).cpu.p = setNZ v s.cpu.p := rfl
@[simp] theorem setNZOf_cpu_cycles (v : Byte) (s : State) : (setNZOf v s).cpu.cycles = s.cpu.cycles := rfl
@[simp] theorem setNZOf_cpu_clockCount (v : Byte) (s : State) : (setNZOf v s).cpu.clockCount = s.cpu.clockCount := rfl
@[simp] theorem setNZOf_bus (v : Byte) (s : State) : (setNZOf v s).bus = s.bus := rfl
@[simp] theorem setNZOf_ppu (v : Byte) (s : State) : (setNZOf v s).ppu = s.ppu := rfl
@[simp] theorem setNZOf_apu (v : Byte) (s : State) : (setNZOf v s).apu = s.apu := rfl
@[simp] theorem setNZOf_cart (v : Byte) (s : State) : (setNZOf v s).cart = s.cart := rfl

/-- Two machines with the same fields are the same machine. -/
theorem state_ext {s t : State} (hcpu : s.cpu = t.cpu) (hbus : s.bus = t.bus) (hppu : s.ppu = t.ppu)
    (hapu : s.apu = t.apu) (hcart : s.cart = t.cart) : s = t := by
  cases s; cases t; simp_all

end Sys2Proof.Laws
end

