-- ==== Sys2Proof/Laws/Ops.lean ====
section
/-! SUPPORT. What each shared operation of Machine/Ops.lean can do, said once. -/

namespace Sys2Proof.Laws

open Sys2Proof.Machine

/-- What a PPU port read can change: the vertical-blank flag, the toggle, the buffer and the address. -/
theorem readPort_eq (cart : Option Cartridge) (port : BitVec 3) (ro : Bool) (p : Ppu) :
    ∃ vb w buf v, (p.readPort cart port ro).2 = { p with verticalBlank := vb, w := w, dataBuffer := buf, v := v } := by
  unfold Ppu.readPort Ppu.readStatus Ppu.readData
  split <;> (try cases ro) <;> exact ⟨_, _, _, _, rfl⟩

/-- A read-only port read changes nothing. -/
theorem readPort_readOnly (cart : Option Cartridge) (port : BitVec 3) (p : Ppu) :
    (p.readPort cart port true).2 = p := by
  unfold Ppu.readPort Ppu.readStatus Ppu.readData
  split <;> rfl

/-- Both kinds of port read return the same byte. -/
theorem readPort_value (cart : Option Cartridge) (port : BitVec 3) (ro : Bool) (p : Ppu) :
    (p.readPort cart port ro).1 = (p.readPort cart port true).1 := by
  unfold Ppu.readPort Ppu.readStatus Ppu.readData
  split <;> rfl

/-- Everything a CPU read can change. -/
theorem cpuRead_eq (addr : Word) (ro : Bool) (s : State) :
    ∃ vb w buf v sh0 sh1,
      (cpuRead addr ro s).2 =
        { s with
          ppu := { s.ppu with verticalBlank := vb, w := w, dataBuffer := buf, v := v }
          bus := { s.bus with shift0 := sh0, shift1 := sh1 } } := by
  unfold cpuRead
  split
  · exact ⟨_, _, _, _, _, _, rfl⟩
  · obtain ⟨vb, w, buf, v, h⟩ := readPort_eq s.cart ‹_› ro s.ppu
    refine ⟨vb, w, buf, v, s.bus.shift0, s.bus.shift1, ?_⟩
    simp only [h]
  · exact ⟨_, _, _, _, _, _, rfl⟩
  · exact ⟨_, _, _, _, _, _, rfl⟩
  · exact ⟨_, _, _, _, _, _, rfl⟩
  · cases ro <;> exact ⟨_, _, _, _, _, _, rfl⟩
  · cases ro <;> exact ⟨_, _, _, _, _, _, rfl⟩
  · exact ⟨_, _, _, _, _, _, rfl⟩
  · exact ⟨_, _, _, _, _, _, rfl⟩

/-- A read-only CPU read changes nothing (R72). -/
theorem cpuRead_readOnly (addr : Word) (s : State) : (cpuRead addr true s).2 = s := by
  unfold cpuRead
  split <;> try rfl
  simp only [readPort_readOnly]

/-- Both kinds of CPU read return the same byte (R72). -/
theorem cpuRead_value (addr : Word) (ro : Bool) (s : State) : (cpuRead addr ro s).1 = peek addr s := by
  unfold peek cpuRead
  split <;> try rfl
  exact readPort_value _ _ _ _

section Read
variable (addr : Word) (ro : Bool) (s : State)

@[simp] theorem cpuRead_cpu : (cpuRead addr ro s).2.cpu = s.cpu := by
  obtain ⟨_, _, _, _, _, _, h⟩ := cpuRead_eq addr ro s; rw [h]
@[simp] theorem cpuRead_apu : (cpuRead addr ro s).2.apu = s.apu := by
  obtain ⟨_, _, _, _, _, _, h⟩ := cpuRead_eq addr ro s; rw [h]
@[simp] theorem cpuRead_cart : (cpuRead addr ro s).2.cart = s.cart := by
  obtain ⟨_, _, _, _, _, _, h⟩ := cpuRead_eq addr ro s; rw [h]
@[simp] theorem cpuRead_ram : (cpuRead addr ro s).2.bus.ram = s.bus.ram := by
  obtain ⟨_, _, _, _, _, _, h⟩ := cpuRead_eq addr ro s; rw [h]
@[simp] theorem memRead_cpu : (memRead addr s).2.cpu = s.cpu := cpuRead_cpu addr false s
@[simp] theorem memRead_apu : (memRead addr s).2.apu = s.apu := cpuRead_apu addr false s
@[simp] theorem memRead_cart : (memRead addr s).2.cart = s.cart := cpuRead_cart addr false s
@[simp] theorem memRead_ram : (memRead addr s).2.bus.ram = s.bus.ram := cpuRead_ram addr false s
theorem memRead_value : (memRead addr s).1 = peek addr s := cpuRead_value addr false s
end Read

/-- What a PPU port write can change outside the PPU: the cartridge's CHR RAM and extra nametable RAM. -/
theorem writePort_cart (cart : Option Cartridge) (port : BitVec 3) (data : Byte) (p : Ppu) :
    (p.writePort cart port data).2 = cart ∨
      ∃ c chr nt, cart = some c ∧ (p.writePort cart port data).2 = some { c with chr := chr, ntExt := nt } := by
  unfold Ppu.writePort
  split <;> try exact .inl rfl
  unfold Ppu.writeData ppuWrite nametableWrite patternWrite
  dsimp only
  split
  · split
    · exact .inl rfl
    · split
      · exact .inr ⟨_, _, _, rfl, rfl⟩
      · exact .inl rfl
  · split
    · split
      · exact .inl rfl
      · split
        · exact .inr ⟨_, _, _, rfl, rfl⟩
        · exact .inl rfl
    · exact .inl rfl

/-- The baseline mapper absorbs every CPU write (R546). -/
@[simp] theorem cartWrite_eq (cart : Option Cartridge) (addr : Word) (data : Byte) : cartWrite cart addr data = cart := by
  unfold cartWrite Cartridge.cpuMapWrite
  cases cart <;> rfl

/-- A CPU write changes no CPU register. -/
@[simp] theorem cpuWrite_cpu (addr : Word) (data : Byte) (s : State) : (cpuWrite addr data s).cpu = s.cpu := by
  unfold cpuWrite
  split <;> try rfl

@[simp] theorem memWrite_cpu (addr : Word) (data : Byte) (s : State) : (memWrite addr data s).cpu = s.cpu :=
  cpuWrite_cpu addr data s

/-- The PRG memory and its mapping survive every CPU write. -/
theorem cpuWrite_cartRead (addr : Word) (data : Byte) (s : State) (a : Word) :
    cartRead (cpuWrite addr data s).cart a = cartRead s.cart a := by
  unfold cpuWrite
  split <;> try rfl
  · next port _ =>
    rcases writePort_cart s.cart port data s.ppu with h | ⟨c, chr, nt, hc, h⟩
    · dsimp only; rw [h]
    · dsimp only; rw [h, hc]; rfl
  · simp

theorem ownerOf_ram {addr : Word} (h : addr.toNat < 0x2000) : ownerOf addr = .ram (addr.toNat % 0x800) := by
  simp [ownerOf, h]

theorem ownerOf_cart {addr : Word} (h : 0x4020 ≤ addr.toNat) : ownerOf addr = .cartridge := by
  unfold ownerOf
  dsimp only
  repeat rw [if_neg (by omega)]

theorem peek_ram {addr : Word} (h : addr.toNat < 0x2000) (s : State) :
    peek addr s = s.bus.ram.read (addr.toNat % 0x800) := by
  unfold peek cpuRead; rw [ownerOf_ram h]

theorem peek_cart {addr : Word} (h : 0x4020 ≤ addr.toNat) (s : State) : peek addr s = cartRead s.cart addr := by
  unfold peek cpuRead; rw [ownerOf_cart h]

/-- A read of RAM or of the cartridge has no side effect (R80). -/
theorem cpuRead_plain {addr : Word} (h : addr.toNat < 0x2000 ∨ 0x4020 ≤ addr.toNat) (ro : Bool) (s : State) :
    cpuRead addr ro s = (peek addr s, s) := by
  rcases h with h | h
  · rw [peek_ram h]; unfold cpuRead; rw [ownerOf_ram h]
  · rw [peek_cart h]; unfold cpuRead; rw [ownerOf_cart h]

theorem memRead_plain {addr : Word} (h : addr.toNat < 0x2000 ∨ 0x4020 ≤ addr.toNat) (s : State) :
    memRead addr s = (peek addr s, s) := cpuRead_plain h false s

/-- A write to RAM. -/
theorem cpuWrite_ram {addr : Word} (h : addr.toNat < 0x2000) (v : Byte) (s : State) :
    cpuWrite addr v s = { s with bus := { s.bus with ram := s.bus.ram.write (addr.toNat % 0x800) v } } := by
  unfold cpuWrite; rw [ownerOf_ram h]

/-- A write to cartridge space changes nothing (R84). -/
theorem cpuWrite_cart {addr : Word} (h : 0x4020 ≤ addr.toNat) (v : Byte) (s : State) : cpuWrite addr v s = s := by
  unfold cpuWrite; rw [ownerOf_cart h]; simp

/-- RAM changes by a CPU write only where the write goes to RAM. -/
theorem cpuWrite_ram_other (addr : Word) (v : Byte) (s : State) (h : 0x2000 ≤ addr.toNat) :
    (cpuWrite addr v s).bus.ram = s.bus.ram := by
  unfold cpuWrite
  split <;> try rfl
  · next i hi =>
    unfold ownerOf at hi
    dsimp only at hi
    rw [if_neg (by omega)] at hi
    split at hi <;> try exact absurd hi (by simp)
    split at hi <;> try exact absurd hi (by simp)
    split at hi <;> try exact absurd hi (by simp)
    split at hi <;> try exact absurd hi (by simp)
    split at hi <;> try exact absurd hi (by simp)
    split at hi <;> try exact absurd hi (by simp)
    split at hi <;> exact absurd hi (by simp)
  · unfold writeStrobe; split <;> rfl

theorem peek_congr {s t : State} (hbus : s.bus = t.bus) (hppu : s.ppu = t.ppu) (hapu : s.apu = t.apu)
    (hcart : s.cart = t.cart) (a : Word) : peek a s = peek a t := by
  obtain ⟨cpu, bus, ppu, apu, cart⟩ := s
  obtain ⟨cpu', bus', ppu', apu', cart'⟩ := t
  subst hbus hppu hapu hcart
  unfold peek cpuRead
  split <;> rfl

/-- The stack location of a stack pointer is in RAM (R24, R76). -/
theorem stackAddr_toNat (sp : Byte) : (stackAddr sp).toNat = 0x100 + sp.toNat := by
  have := sp.isLt
  unfold stackAddr zext16
  rw [BitVec.toNat_add, BitVec.toNat_ofNat, BitVec.toNat_ofNat]
  omega

theorem stackAddr_lt (sp : Byte) : (stackAddr sp).toNat < 0x2000 := by
  have := sp.isLt; rw [stackAddr_toNat]; omega

/-- A push: one byte of RAM and the stack pointer. -/
theorem push_eq (v : Byte) (s : State) :
    push v s =
      { s with
        cpu := { s.cpu with sp := s.cpu.sp - 1#8 }
        bus := { s.bus with ram := s.bus.ram.write (0x100 + s.cpu.sp.toNat) v } } := by
  unfold push memWrite
  rw [cpuWrite_ram (stackAddr_lt _), stackAddr_toNat]
  have := s.cpu.sp.isLt
  rw [Nat.mod_eq_of_lt (by omega)]
  rfl

/-- A pull: the byte of RAM above the stack pointer, and the stack pointer. -/
theorem pull_eq (s : State) :
    pull s =
      (s.bus.ram.read (0x100 + (s.cpu.sp + 1#8).toNat), { s with cpu := { s.cpu with sp := s.cpu.sp + 1#8 } }) := by
  unfold pull
  have := (s.cpu.sp + 1#8).isLt
  rw [memRead_plain (.inl (stackAddr_lt _)), peek_ram (stackAddr_lt _), stackAddr_toNat,
    Nat.mod_eq_of_lt (by omega)]
  rfl

end Sys2Proof.Laws
end

