-- ==== Sys2Proof/Laws/InvBus.lean ====
section
/-! SUPPORT. The invariant of Safety.lean is kept by every bus access: the status byte, the PPU's ports, the APU's
registers, the cartridge, `cpuRead` and `cpuWrite`. -/

namespace Sys2Proof.Laws

open Sys2Proof.Machine

/-- The two flags that never change in the live register (R30). -/
def StatusOk (p : Byte) : Prop := flagB p = false ∧ flagU p = true

theorem statusOk_setFlag {p mask : Byte} (h : StatusOk p) (h4 : mask.getLsbD 4 = false) (h5 : mask.getLsbD 5 = false)
    (b : Bool) : StatusOk (setFlag mask b p) := by
  unfold StatusOk flagB flagU setFlag at *
  cases b
  · simp only [Bool.false_eq_true, if_false, BitVec.getLsbD_and, BitVec.getLsbD_not, h4, h5, h.1, h.2]
    decide
  · simp only [if_true, BitVec.getLsbD_or, h4, h5, h.1, h.2]
    decide

theorem statusOk_setNZ {p : Byte} (h : StatusOk p) (v : Byte) : StatusOk (setNZ v p) :=
  statusOk_setFlag (statusOk_setFlag h (by decide) (by decide) _) (by decide) (by decide) _

theorem statusOk_setAddFlags {p : Byte} (h : StatusOk p) (r : AddResult) : StatusOk (setAddFlags r p) :=
  statusOk_setNZ (statusOk_setFlag (statusOk_setFlag h (by decide) (by decide) _) (by decide) (by decide) _) _

theorem statusOk_setCompareFlags {p : Byte} (h : StatusOk p) (r m : Byte) : StatusOk (setCompareFlags r m p) :=
  statusOk_setNZ (statusOk_setFlag h (by decide) (by decide) _) _

theorem statusOk_setBitFlags {p : Byte} (h : StatusOk p) (a m : Byte) : StatusOk (setBitFlags a m p) :=
  statusOk_setFlag (statusOk_setFlag (statusOk_setFlag h (by decide) (by decide) _) (by decide) (by decide) _)
    (by decide) (by decide) _

theorem statusOk_setShiftFlags {p : Byte} (h : StatusOk p) (r : ShiftResult) : StatusOk (setShiftFlags r p) :=
  statusOk_setNZ (statusOk_setFlag h (by decide) (by decide) _) _

theorem statusOk_statusPulled (v : Byte) : StatusOk (statusPulled v) := by
  unfold StatusOk flagB flagU statusPulled
  simp

theorem palIndex_lt (a : PpuAddr) : palIndex a < 32 := by
  unfold palIndex
  dsimp only
  split <;> omega

/-- Every nametable cell lies inside its memory (R397). -/
theorem nametableCell_lt (mode : Mirroring) (a : PpuAddr) :
    match nametableCell mode a with
    | .vram i => i < 2048
    | .ext i => i < 2048 := by
  have := a.isLt
  unfold nametableCell
  cases mode <;> dsimp only
  · omega
  · omega
  · omega
  · omega
  · by_cases h : a.toNat % 4096 / 1024 < 2
    · simp only [h, if_true]; omega
    · simp only [h, if_false]; omega

/-- Everything of the PPU's invariant is about fields that port reads do not touch. -/
theorem ppu_inv_read {p : Ppu} (h : p.Inv) (vb w : Bool) (buf : Byte) (v : Loopy) :
    Ppu.Inv { p with verticalBlank := vb, w := w, dataBuffer := buf, v := v } :=
  { h with }

theorem ppuWrite_inv {cart : Option Cartridge} {p : Ppu} (h : p.Inv) (hc : ∀ c, cart = some c → c.Inv) (a : PpuAddr)
    (data : Byte) :
    (ppuWrite cart p a data).1.Inv ∧ ∀ c, (ppuWrite cart p a data).2 = some c → c.Inv := by
  unfold ppuWrite
  split
  · refine ⟨h, ?_⟩
    unfold patternWrite
    split
    · intro c hc'; cases hc'
    · next c =>
      have hi := hc c rfl
      unfold Cartridge.ppuMapWrite
      by_cases hz : c.chrBanks = 0
      · rw [if_pos hz]
        intro c' hc'
        cases hc'
        have hlt : a.toNat < c.chrSize := by unfold Cartridge.chrSize; rw [if_pos hz]; omega
        exact { hi with chr := memory_inv_write hi.chr hlt data }
      · rw [if_neg hz]
        intro c' hc'; cases hc'; exact hi
  · split
    · unfold nametableWrite
      have hlt := nametableCell_lt (mirroringOf cart) a
      split
      · next i hi =>
        rw [hi] at hlt
        exact ⟨{ h with vram := memory_inv_write h.vram hlt data }, hc⟩
      · next i hi =>
        rw [hi] at hlt
        split
        · next c =>
          refine ⟨h, fun c' hc' => ?_⟩
          cases hc'
          exact { hc c rfl with ntExt := memory_inv_write (hc c rfl).ntExt hlt data }
        · exact ⟨h, fun c hc' => by cases hc'⟩
    · exact ⟨{ h with palette := memory_inv_write h.palette (palIndex_lt a) data }, hc⟩

theorem writeOamData_inv {p : Ppu} (h : p.Inv) (data : Byte) : (p.writeOamData data).Inv :=
  { h with oam := memory_inv_write h.oam p.oamAddr.isLt data }

theorem writePort_inv {cart : Option Cartridge} {p : Ppu} (h : p.Inv) (hc : ∀ c, cart = some c → c.Inv)
    (port : BitVec 3) (data : Byte) :
    (p.writePort cart port data).1.Inv ∧ ∀ c, (p.writePort cart port data).2 = some c → c.Inv := by
  unfold Ppu.writePort
  split
  · exact ⟨{ h with }, hc⟩
  · exact ⟨{ h with }, hc⟩
  · exact ⟨{ h with }, hc⟩
  · exact ⟨writeOamData_inv h data, hc⟩
  · refine ⟨?_, hc⟩
    unfold Ppu.writeScroll
    split <;> exact { h with }
  · refine ⟨?_, hc⟩
    unfold Ppu.writeAddress
    split <;> exact { h with }
  · have := ppuWrite_inv h hc (busAddress p.v) data
    exact ⟨{ this.1 with }, this.2⟩
  · exact ⟨h, hc⟩

theorem lengthTable_le (i : Nat) : lengthTable.getD i 0 ≤ 254 := by
  by_cases h : i < lengthTable.length
  · have : ∀ j : Fin lengthTable.length, lengthTable.getD j.val 0 ≤ 254 := by decide
    exact this ⟨i, h⟩
  · rw [List.getD_eq_default _ _ (by omega)]; omega

/-- A length load is at most 254 (R487). -/
theorem lengthLoad_le (data : Byte) : (lengthLoad data).toNat ≤ 254 := by
  have := lengthTable_le (data.toNat / 8)
  unfold lengthLoad
  rw [BitVec.toNat_ofNat, Nat.mod_eq_of_lt (by omega)]
  exact this

theorem lengthClock_le {l : Byte} (h : l.toNat ≤ 254) (halt : Bool) : (lengthClock halt l).toNat ≤ 254 := by
  unfold lengthClock
  split
  · next hc =>
    have : l ≠ 0#8 := by simp at hc; exact hc.2
    have : l.toNat ≠ 0 := fun h0 => this (BitVec.eq_of_toNat_eq h0)
    have := l.isLt
    rw [BitVec.toNat_sub]
    simp
    omega
  · exact h

theorem enableLength_le {l : Byte} (h : l.toNat ≤ 254) (b : Bool) : (enableLength b l).toNat ≤ 254 := by
  unfold enableLength
  cases b
  · simp
  · exact h

theorem loaded_le {l : Byte} (h : l.toNat ≤ 254) (b : Bool) (data : Byte) :
    (if b then lengthLoad data else l).toNat ≤ 254 := by
  cases b
  · exact h
  · exact lengthLoad_le data

theorem quarterFrame_inv {a : Apu} (h : a.Inv) : a.quarterFrame.Inv := { h with }

theorem halfFrame_inv {a : Apu} (h : a.Inv) : a.halfFrame.Inv :=
  { h with
    length1 := lengthClock_le h.length1 _
    length2 := lengthClock_le h.length2 _
    lengthT := lengthClock_le h.lengthT _
    lengthN := lengthClock_le h.lengthN _ }

theorem wrapCount_pos (b : Bool) : 0 < wrapCount b := by cases b <;> decide

theorem writeFrameCounter_inv {a : Apu} (h : a.Inv) (data : Byte) : (a.writeFrameCounter data).Inv := by
  have h' : Apu.Inv { a with frameMode := data.getLsbD 7, irqInhibit := data.getLsbD 6, frameCounter := 0 } :=
    { h with frameCounter := wrapCount_pos _ }
  unfold Apu.writeFrameCounter
  dsimp only
  split
  · exact halfFrame_inv (quarterFrame_inv h')
  · exact h'

theorem writeEnables_inv {a : Apu} (h : a.Inv) (data : Byte) : (a.writeEnables data).Inv :=
  { h with
    length1 := enableLength_le h.length1 _
    length2 := enableLength_le h.length2 _
    lengthT := enableLength_le h.lengthT _
    lengthN := enableLength_le h.lengthN _ }

theorem apuWrite_inv {a : Apu} (h : a.Inv) (r : Nat) (data : Byte) : (a.write r data).Inv := by
  unfold Apu.write
  split
  · exact { h with }
  · exact { h with }
  · exact { h with }
  · exact { h with length1 := loaded_le h.length1 _ _ }
  · exact { h with }
  · exact { h with }
  · exact { h with }
  · exact { h with length2 := loaded_le h.length2 _ _ }
  · exact { h with }
  · exact { h with }
  · exact { h with lengthT := loaded_le h.lengthT _ _ }
  · exact { h with }
  · exact { h with }
  · exact { h with lengthN := loaded_le h.lengthN _ _ }
  · exact writeEnables_inv h data
  · exact writeFrameCounter_inv h data
  · exact h

/-- The APU's divider is not a register. -/
@[simp] theorem apuWrite_div (a : Apu) (r : Nat) (data : Byte) : (a.write r data).div = a.div := by
  unfold Apu.write
  split <;> try rfl
  unfold Apu.writeFrameCounter
  dsimp only
  split <;> rfl

/-- A CPU read keeps the invariant. -/
theorem cpuRead_inv {s : State} (h : s.Inv) (addr : Word) (ro : Bool) : (cpuRead addr ro s).2.Inv := by
  obtain ⟨vb, w, buf, v, sh0, sh1, he⟩ := cpuRead_eq addr ro s
  rw [he]
  exact { h with bus := { h.bus with }, ppu := ppu_inv_read h.ppu vb w buf v }

theorem memRead_inv {s : State} (h : s.Inv) (addr : Word) : (memRead addr s).2.Inv := cpuRead_inv h addr false

theorem ownerOf_ram_lt {addr : Word} {i : Nat} (h : ownerOf addr = .ram i) : i < 2048 := by
  by_cases hlt : addr.toNat < 0x2000
  · rw [ownerOf_ram hlt] at h
    cases h
    omega
  · unfold ownerOf at h
    dsimp only at h
    rw [if_neg hlt] at h
    repeat (split at h <;> try exact absurd h (by simp))

/-- A CPU write keeps the invariant. -/
theorem cpuWrite_inv {s : State} (h : s.Inv) (addr : Word) (v : Byte) : (cpuWrite addr v s).Inv := by
  unfold cpuWrite
  split
  · next i hi => exact { h with bus := { h.bus with ram := memory_inv_write h.bus.ram (ownerOf_ram_lt hi) v } }
  · next port _ =>
    have := writePort_inv h.ppu h.cart port v
    exact { h with ppu := this.1, cart := this.2 }
  · exact { h with apu := apuWrite_inv h.apu _ v, divider := by rw [apuWrite_div]; exact h.divider }
  · exact { h with bus := { h.bus with } }
  · exact { h with apu := apuWrite_inv h.apu 0x15 v, divider := by rw [apuWrite_div]; exact h.divider }
  · unfold writeStrobe
    split
    · exact { h with bus := { h.bus with } }
    · exact { h with bus := { h.bus with } }
  · exact { h with apu := apuWrite_inv h.apu 0x17 v, divider := by rw [apuWrite_div]; exact h.divider }
  · exact h
  · rw [cartWrite_eq]; exact h

theorem memWrite_inv {s : State} (h : s.Inv) (addr : Word) (v : Byte) : (memWrite addr v s).Inv := cpuWrite_inv h addr v

/-- Another CPU part that keeps its own invariant. -/
theorem inv_withCpu {s : State} (h : s.Inv) {c : Cpu} (hc : c.Inv) : State.Inv { s with cpu := c } :=
  { h with cpu := hc }

end Sys2Proof.Laws
end

