-- ==== Sys2Proof/Laws/InvExec.lean ====
section
/-! SUPPORT. Every meaning completes, and from a state that meets the invariant it gives a state that meets it. -/

namespace Sys2Proof.Laws

open Sys2Proof.Machine

/-- The outcome is a next state that meets the invariant. -/
def Completes (o : Host.Outcome State Fault Refusal) : Prop := ∃ t, o = .next t ∧ t.Inv

theorem statusOk_of_inv {s : State} (h : s.Inv) : StatusOk s.cpu.p := ⟨h.cpu.breakClear, h.cpu.unusedSet⟩

theorem setA_inv {s : State} (h : s.Inv) (v : Byte) : (setA v s).Inv := inv_withCpu h { h.cpu with }
theorem setX_inv {s : State} (h : s.Inv) (v : Byte) : (setX v s).Inv := inv_withCpu h { h.cpu with }
theorem setY_inv {s : State} (h : s.Inv) (v : Byte) : (setY v s).Inv := inv_withCpu h { h.cpu with }
theorem setSP_inv {s : State} (h : s.Inv) (v : Byte) : (setSP v s).Inv := inv_withCpu h { h.cpu with }
theorem setPC_inv {s : State} (h : s.Inv) (v : Word) : (setPC v s).Inv := inv_withCpu h { h.cpu with }
theorem setP_inv {s : State} (h : s.Inv) {p : Byte} (hp : StatusOk p) : (setP p s).Inv :=
  inv_withCpu h { h.cpu with breakClear := hp.1, unusedSet := hp.2 }
theorem setNZOf_inv {s : State} (h : s.Inv) (v : Byte) : (setNZOf v s).Inv :=
  setP_inv h (statusOk_setNZ (statusOk_of_inv h) v)

theorem complete_inv {s : State} (h : s.Inv) {n : Nat} (hn : n ≤ 8) : Completes (complete n s) :=
  ⟨_, rfl, inv_withCpu h { h.cpu with cyclesLe := hn }⟩

theorem readWord_inv {s : State} (h : s.Inv) (lo hi : Word) : (readWord lo hi s).2.Inv :=
  memRead_inv (memRead_inv h lo) hi

@[simp] theorem readWord_cpu (lo hi : Word) (s : State) : (readWord lo hi s).2.cpu = s.cpu := by
  unfold readWord; simp

theorem resolve_inv {s : State} (h : s.Inv) (m : MemOperand) : (resolve m s).st.Inv := by
  cases m <;> first | exact h | exact readWord_inv h _ _

@[simp] theorem resolve_cpu (m : MemOperand) (s : State) : (resolve m s).st.cpu = s.cpu := by
  cases m <;> first | rfl | exact readWord_cpu _ _ s

theorem loadOperand_inv {s : State} (h : s.Inv) (m : ReadOperand) : (loadOperand m s).st.Inv := by
  cases m with
  | imm v => exact h
  | mem m => exact memRead_inv (resolve_inv h m) _

/-- Reading an operand changes no CPU register. -/
@[simp] theorem loadOperand_cpu (m : ReadOperand) (s : State) : (loadOperand m s).st.cpu = s.cpu := by
  cases m with
  | imm v => rfl
  | mem m => unfold loadOperand loadMem; simp

theorem crossExtra_le (b : Bool) : crossExtra b ≤ 1 := by cases b <;> decide

theorem readCycles_le (m : ReadOperand) : readCycles m ≤ 6 := by
  cases m with
  | imm v => exact Nat.le_of_ble_eq_true rfl
  | mem m => cases m <;> exact Nat.le_of_ble_eq_true rfl

theorem storeCycles_le (m : MemOperand) : storeCycles m ≤ 6 := by cases m <;> exact Nat.le_of_ble_eq_true rfl
theorem modifyCycles_le (m : MemOperand) : modifyCycles m ≤ 8 := by cases m <;> exact Nat.le_of_ble_eq_true rfl

/-- A reading instruction completes when what it does with the operand keeps the invariant. -/
theorem readThen_inv {s : State} (h : s.Inv) (m : ReadOperand) {f : Byte → State → State}
    (hf : ∀ v t, t.Inv → (f v t).Inv) : Completes (readThen m f s) := by
  have := readCycles_le m
  have := crossExtra_le (loadOperand m s).crossed
  exact complete_inv (hf _ _ (loadOperand_inv h m)) (by omega)

theorem storeTo_inv {s : State} (h : s.Inv) (m : MemOperand) (v : Byte) : Completes (storeTo m v s) := by
  have := storeCycles_le m
  exact complete_inv (memWrite_inv (resolve_inv h m) _ _) (by omega)

theorem modifyMem_inv {s : State} (h : s.Inv) (m : MemOperand) {f : Byte → Byte → Byte × Byte}
    (hf : ∀ v p, StatusOk p → StatusOk (f v p).2) : Completes (modifyMem m f s) := by
  have hr := memRead_inv (resolve_inv h m) (resolve m s).ea
  exact complete_inv (memWrite_inv (setP_inv hr (hf _ _ (statusOk_of_inv hr))) _ _) (modifyCycles_le m)

theorem shiftOperand_inv {s : State} (h : s.Inv) (f : Byte → Bool → ShiftResult) (m : ShiftOperand) :
    Completes (shiftOperand f m s) := by
  cases m with
  | acc =>
    exact complete_inv (setP_inv (setA_inv h _) (statusOk_setShiftFlags (statusOk_of_inv h) _)) (by decide)
  | mem m =>
    unfold shiftOperand
    refine modifyMem_inv h m fun v p hp => ?_
    dsimp only
    exact statusOk_setShiftFlags hp _

/-- An increment or decrement in memory. -/
theorem countMem_inv {s : State} (h : s.Inv) (m : MemOperand) (g : Byte → Byte) :
    Completes (modifyMem m (fun v p => (g v, setNZ (g v) p)) s) := by
  refine modifyMem_inv h m fun v p hp => ?_
  dsimp only
  exact statusOk_setNZ hp _

theorem push_inv {s : State} (h : s.Inv) (v : Byte) : (push v s).Inv := setSP_inv (memWrite_inv h _ _) _
theorem pull_inv {s : State} (h : s.Inv) : (pull s).2.Inv := by
  unfold pull; exact memRead_inv (setSP_inv h _) _
theorem pushWord_inv {s : State} (h : s.Inv) (w : Word) : (pushWord w s).Inv := push_inv (push_inv h _) _
theorem pullWord_inv {s : State} (h : s.Inv) : (pullWord s).2.Inv := pull_inv (pull_inv h)

theorem enterInterrupt_inv {s : State} (h : s.Inv) (ret : Word) (status : Byte) (disable : Bool) (vector : Word) :
    (enterInterrupt ret status disable vector s).Inv := by
  have hp := push_inv (pushWord_inv h ret) status
  unfold enterInterrupt
  refine setPC_inv (readWord_inv ?_ _ _) _
  split
  · exact setP_inv hp (statusOk_setFlag (statusOk_of_inv hp) (by decide) (by decide) _)
  · exact hp

theorem returnFromInterrupt_inv {s : State} (h : s.Inv) : (returnFromInterrupt s).Inv :=
  setPC_inv (pullWord_inv (setP_inv (pull_inv h) (statusOk_statusPulled _))) _

theorem cpuNmi_inv {s : State} (h : s.Inv) : (cpuNmi s).Inv :=
  inv_withCpu (enterInterrupt_inv h _ _ _ _) { (enterInterrupt_inv h _ _ _ _).cpu with cyclesLe := Nat.le_of_ble_eq_true rfl }

theorem cpuIrq_inv {s : State} (h : s.Inv) : (cpuIrq s).Inv := by
  unfold cpuIrq
  split
  · exact h
  · exact inv_withCpu (enterInterrupt_inv h _ _ _ _) { (enterInterrupt_inv h _ _ _ _).cpu with cyclesLe := Nat.le_of_ble_eq_true rfl }

theorem branchIf_inv {s : State} (h : s.Inv) (c : Bool) (off : Byte) : Completes (branchIf c off s) := by
  unfold branchIf
  dsimp only
  split
  · exact complete_inv (setPC_inv h _) (by split <;> omega)
  · exact complete_inv h (by omega)

theorem jumpAddress_inv {s : State} (h : s.Inv) (t : JumpTarget) : (jumpAddress t s).2.Inv := by
  cases t with
  | abs w => exact h
  | ind w => exact readWord_inv h _ _

theorem writeFlag_inv {s : State} (h : s.Inv) {mask : Byte} (h4 : mask.getLsbD 4 = false)
    (h5 : mask.getLsbD 5 = false) (b : Bool) : Completes (writeFlag mask b s) :=
  complete_inv (setP_inv h (statusOk_setFlag (statusOk_of_inv h) h4 h5 b)) (by omega)

/-- Every undocumented opcode takes at most 8 cycles (R31, R251). -/
theorem illegalCycles_le (op : Nat) : illegalCycles op ≤ 8 := by
  have hall : ∀ e ∈ illegalCyclesTable, e.2 ≤ 8 := by decide
  unfold illegalCycles
  cases h : illegalCyclesTable.lookup op with
  | none => decide
  | some n =>
    have : ∀ (l : List (Nat × Nat)), (∀ e ∈ l, e.2 ≤ 8) → l.lookup op = some n → n ≤ 8 := by
      intro l hl hn
      induction l with
      | nil => cases hn
      | cons e l ih =>
        rw [List.lookup_cons] at hn
        split at hn
        · cases hn; exact hl e (by simp)
        · exact ih (fun e he => hl e (by simp [he])) hn
    exact this _ hall h

theorem undocumented_inv {s : State} (h : s.Inv) (op : Nat) : Completes (undocumented op s) :=
  complete_inv h (illegalCycles_le op)

/-- Every instruction completes and keeps the invariant. -/
theorem exec_inv {s : State} (h : s.Inv) (i : Instr) : Completes (exec i s) := by
  cases i with
  | lda m => exact readThen_inv h m fun v _ ht => setNZOf_inv (setA_inv ht v) v
  | ldx m => exact readThen_inv h m fun v _ ht => setNZOf_inv (setX_inv ht v) v
  | ldy m => exact readThen_inv h m fun v _ ht => setNZOf_inv (setY_inv ht v) v
  | sta m => exact storeTo_inv h m _
  | stx m => exact storeTo_inv h m _
  | sty m => exact storeTo_inv h m _
  | tax => exact complete_inv (setNZOf_inv (setX_inv h _) _) (by omega)
  | tay => exact complete_inv (setNZOf_inv (setY_inv h _) _) (by omega)
  | txa => exact complete_inv (setNZOf_inv (setA_inv h _) _) (by omega)
  | tya => exact complete_inv (setNZOf_inv (setA_inv h _) _) (by omega)
  | tsx => exact complete_inv (setNZOf_inv (setX_inv h _) _) (by omega)
  | txs => exact complete_inv (setSP_inv h _) (by omega)
  | adc m => exact readThen_inv h m fun _ _ ht => setP_inv (setA_inv ht _) (statusOk_setAddFlags (statusOk_of_inv ht) _)
  | sbc m => exact readThen_inv h m fun _ _ ht => setP_inv (setA_inv ht _) (statusOk_setAddFlags (statusOk_of_inv ht) _)
  | and m => exact readThen_inv h m fun _ _ ht => setNZOf_inv (setA_inv ht _) _
  | ora m => exact readThen_inv h m fun _ _ ht => setNZOf_inv (setA_inv ht _) _
  | eor m => exact readThen_inv h m fun _ _ ht => setNZOf_inv (setA_inv ht _) _
  | bit m => exact readThen_inv h (.mem m) fun _ _ ht => setP_inv ht (statusOk_setBitFlags (statusOk_of_inv ht) _ _)
  | cmp m => exact readThen_inv h m fun _ _ ht => setP_inv ht (statusOk_setCompareFlags (statusOk_of_inv ht) _ _)
  | cpx m => exact readThen_inv h m fun _ _ ht => setP_inv ht (statusOk_setCompareFlags (statusOk_of_inv ht) _ _)
  | cpy m => exact readThen_inv h m fun _ _ ht => setP_inv ht (statusOk_setCompareFlags (statusOk_of_inv ht) _ _)
  | asl m => exact shiftOperand_inv h _ m
  | lsr m => exact shiftOperand_inv h _ m
  | rol m => exact shiftOperand_inv h _ m
  | ror m => exact shiftOperand_inv h _ m
  | inc m => exact countMem_inv h m (fun v => v + 1#8)
  | dec m => exact countMem_inv h m (fun v => v - 1#8)
  | inx => exact complete_inv (setNZOf_inv (setX_inv h _) _) (by omega)
  | iny => exact complete_inv (setNZOf_inv (setY_inv h _) _) (by omega)
  | dex => exact complete_inv (setNZOf_inv (setX_inv h _) _) (by omega)
  | dey => exact complete_inv (setNZOf_inv (setY_inv h _) _) (by omega)
  | jmp t => exact complete_inv (setPC_inv (jumpAddress_inv h t) _) (by cases t <;> exact Nat.le_of_ble_eq_true rfl)
  | jsr w => exact complete_inv (setPC_inv (pushWord_inv h _) w) (by omega)
  | rts => exact complete_inv (setPC_inv (pullWord_inv h) _) (by omega)
  | bcc off => exact branchIf_inv h _ off
  | bcs off => exact branchIf_inv h _ off
  | beq off => exact branchIf_inv h _ off
  | bne off => exact branchIf_inv h _ off
  | bmi off => exact branchIf_inv h _ off
  | bpl off => exact branchIf_inv h _ off
  | bvc off => exact branchIf_inv h _ off
  | bvs off => exact branchIf_inv h _ off
  | pha => exact complete_inv (push_inv h _) (by omega)
  | pla => exact complete_inv (setNZOf_inv (setA_inv (pull_inv h) _) _) (by omega)
  | php => exact complete_inv (push_inv h _) (by omega)
  | plp => exact complete_inv (setP_inv (pull_inv h) (statusOk_statusPulled _)) (by omega)
  | clc => exact writeFlag_inv h (by decide) (by decide) _
  | sec => exact writeFlag_inv h (by decide) (by decide) _
  | cli => exact writeFlag_inv h (by decide) (by decide) _
  | sei => exact writeFlag_inv h (by decide) (by decide) _
  | cld => exact writeFlag_inv h (by decide) (by decide) _
  | sed => exact writeFlag_inv h (by decide) (by decide) _
  | clv => exact writeFlag_inv h (by decide) (by decide) _
  | nop => exact complete_inv h (by omega)
  | brk => exact complete_inv (enterInterrupt_inv h _ _ _ _) (by omega)
  | rti => exact complete_inv (returnFromInterrupt_inv h) (by omega)
  | und02 => exact undocumented_inv h _
  | und03 => exact undocumented_inv h _
  | und04 => exact undocumented_inv h _
  | und07 => exact undocumented_inv h _
  | und0B => exact undocumented_inv h _
  | und0C => exact undocumented_inv h _
  | und0F => exact undocumented_inv h _
  | und12 => exact undocumented_inv h _
  | und13 => exact undocumented_inv h _
  | und14 => exact undocumented_inv h _
  | und17 => exact undocumented_inv h _
  | und1A => exact undocumented_inv h _
  | und1B => exact undocumented_inv h _
  | und1C => exact undocumented_inv h _
  | und1F => exact undocumented_inv h _
  | und22 => exact undocumented_inv h _
  | und23 => exact undocumented_inv h _
  | und27 => exact undocumented_inv h _
  | und2B => exact undocumented_inv h _
  | und2F => exact undocumented_inv h _
  | und32 => exact undocumented_inv h _
  | und33 => exact undocumented_inv h _
  | und34 => exact undocumented_inv h _
  | und37 => exact undocumented_inv h _
  | und3A => exact undocumented_inv h _
  | und3B => exact undocumented_inv h _
  | und3C => exact undocumented_inv h _
  | und3F => exact undocumented_inv h _
  | und42 => exact undocumented_inv h _
  | und43 => exact undocumented_inv h _
  | und44 => exact undocumented_inv h _
  | und47 => exact undocumented_inv h _
  | und4B => exact undocumented_inv h _
  | und4F => exact undocumented_inv h _
  | und52 => exact undocumented_inv h _
  | und53 => exact undocumented_inv h _
  | und54 => exact undocumented_inv h _
  | und57 => exact undocumented_inv h _
  | und5A => exact undocumented_inv h _
  | und5B => exact undocumented_inv h _
  | und5C => exact undocumented_inv h _
  | und5F => exact undocumented_inv h _
  | und62 => exact undocumented_inv h _
  | und63 => exact undocumented_inv h _
  | und64 => exact undocumented_inv h _
  | und67 => exact undocumented_inv h _
  | und6B => exact undocumented_inv h _
  | und6F => exact undocumented_inv h _
  | und72 => exact undocumented_inv h _
  | und73 => exact undocumented_inv h _
  | und74 => exact undocumented_inv h _
  | und77 => exact undocumented_inv h _
  | und7A => exact undocumented_inv h _
  | und7B => exact undocumented_inv h _
  | und7C => exact undocumented_inv h _
  | und7F => exact undocumented_inv h _
  | und80 => exact undocumented_inv h _
  | und82 => exact undocumented_inv h _
  | und83 => exact undocumented_inv h _
  | und87 => exact undocumented_inv h _
  | und89 => exact undocumented_inv h _
  | und8B => exact undocumented_inv h _
  | und8F => exact undocumented_inv h _
  | und92 => exact undocumented_inv h _
  | und93 => exact undocumented_inv h _
  | und97 => exact undocumented_inv h _
  | und9B => exact undocumented_inv h _
  | und9C => exact undocumented_inv h _
  | und9E => exact undocumented_inv h _
  | und9F => exact undocumented_inv h _
  | undA3 => exact undocumented_inv h _
  | undA7 => exact undocumented_inv h _
  | undAB => exact undocumented_inv h _
  | undAF => exact undocumented_inv h _
  | undB2 => exact undocumented_inv h _
  | undB3 => exact undocumented_inv h _
  | undB7 => exact undocumented_inv h _
  | undBB => exact undocumented_inv h _
  | undBF => exact undocumented_inv h _
  | undC2 => exact undocumented_inv h _
  | undC3 => exact undocumented_inv h _
  | undC7 => exact undocumented_inv h _
  | undCB => exact undocumented_inv h _
  | undCF => exact undocumented_inv h _
  | undD2 => exact undocumented_inv h _
  | undD3 => exact undocumented_inv h _
  | undD4 => exact undocumented_inv h _
  | undD7 => exact undocumented_inv h _
  | undDA => exact undocumented_inv h _
  | undDB => exact undocumented_inv h _
  | undDC => exact undocumented_inv h _
  | undDF => exact undocumented_inv h _
  | undE2 => exact undocumented_inv h _
  | undE3 => exact undocumented_inv h _
  | undE7 => exact undocumented_inv h _
  | undEB => exact undocumented_inv h _
  | undEF => exact undocumented_inv h _
  | undF2 => exact undocumented_inv h _
  | undF3 => exact undocumented_inv h _
  | undF4 => exact undocumented_inv h _
  | undF7 => exact undocumented_inv h _
  | undFA => exact undocumented_inv h _
  | undFB => exact undocumented_inv h _
  | undFC => exact undocumented_inv h _
  | undFF => exact undocumented_inv h _

end Sys2Proof.Laws
end

