-- ==== Sys2Proof/Laws/Exec.lean ====
section
/-! SUPPORT. What the operand forms and the bus accesses of an instruction do to memory, and what the flag computations
do to `P`, in the vocabulary of Safety.lean: the lemmas that proofs about instructions cite. -/

namespace Sys2Proof.Laws

open Sys2Proof.Machine

/-- A CPU read does not look at the CPU's registers. -/
theorem cpuRead_withCpu (a : Word) (ro : Bool) (s : State) (c : Cpu) :
    cpuRead a ro { s with cpu := c } = ((cpuRead a ro s).1, { (cpuRead a ro s).2 with cpu := c }) := by
  unfold cpuRead
  split <;> (try cases ro) <;> rfl

theorem memRead_withCpu (a : Word) (s : State) (c : Cpu) :
    memRead a { s with cpu := c } = ((memRead a s).1, { (memRead a s).2 with cpu := c }) := cpuRead_withCpu a false s c

/-- A CPU write does not look at the CPU's registers. -/
theorem cpuWrite_withCpu (a : Word) (v : Byte) (s : State) (c : Cpu) :
    cpuWrite a v { s with cpu := c } = { cpuWrite a v s with cpu := c } := by
  unfold cpuWrite
  split <;> rfl

theorem memWrite_withCpu (a : Word) (v : Byte) (s : State) (c : Cpu) :
    memWrite a v { s with cpu := c } = { memWrite a v s with cpu := c } := cpuWrite_withCpu a v s c

/-- A byte of memory depends on RAM and the cartridge alone. -/
theorem peek_memory {s t : State} {a : Word} (h : IsMemory a) (hram : t.bus.ram = s.bus.ram) (hcart : cartRead t.cart a = cartRead s.cart a) :
    peek a t = peek a s := by
  rcases h with h | h
  · rw [peek_ram h, peek_ram h, hram]
  · rw [peek_cart h, peek_cart h, hcart]

theorem sameMemory_refl (s : State) : SameMemory s s := ⟨fun _ _ => rfl, rfl, rfl, rfl, rfl⟩

theorem sameMemory_trans {s t u : State} (h : SameMemory s t) (h' : SameMemory t u) : SameMemory s u where
  bytes a ha := (h'.bytes a ha).trans (h.bytes a ha)
  vram := h'.vram.trans h.vram
  palette := h'.palette.trans h.palette
  oam := h'.oam.trans h.oam
  cart := h'.cart.trans h.cart

/-- A CPU read changes no byte of any memory. -/
theorem sameMemory_cpuRead (a : Word) (ro : Bool) (s : State) : SameMemory s (cpuRead a ro s).2 := by
  obtain ⟨vb, w, buf, v, sh0, sh1, h⟩ := cpuRead_eq a ro s
  rw [h]
  exact ⟨fun b hb => peek_memory hb rfl rfl, rfl, rfl, rfl, rfl⟩

theorem sameMemory_memRead (a : Word) (s : State) : SameMemory s (memRead a s).2 := sameMemory_cpuRead a false s

theorem isMemory_stackAddr (sp : Byte) : IsMemory (stackAddr sp) := .inl (stackAddr_lt sp)

theorem isMemory_zeroPage (b : Byte) : IsMemory (zext16 b) := by
  left
  have := b.isLt
  unfold zext16
  rw [BitVec.toNat_ofNat]
  omega

/-- A word read from memory changes nothing. -/
theorem readWord_plain {lo hi : Word} (hlo : IsMemory lo) (hhi : IsMemory hi) (s : State) :
    readWord lo hi s = (wordOf (peek lo s) (peek hi s), s) := by
  unfold readWord
  rw [memRead_plain hlo]
  dsimp only
  rw [memRead_plain hhi]

/-- The pointer reads of an operand form, in the zero page, change nothing. -/
@[simp] theorem resolve_st (m : MemOperand) (s : State) : (resolve m s).st = s := by
  cases m <;> simp only [resolve, indexed, zeroPagePointer, readWord_plain (isMemory_zeroPage _) (isMemory_zeroPage _)]

theorem loadMem_eq (m : MemOperand) (s : State) :
    loadMem m s = ⟨(memRead (resolve m s).ea s).1, (resolve m s).crossed, (memRead (resolve m s).ea s).2⟩ := by
  unfold loadMem
  simp only [resolve_st]

/-- Reading an operand changes no byte of any memory. -/
theorem sameMemory_loadOperand (m : ReadOperand) (s : State) : SameMemory s (loadOperand m s).st := by
  cases m with
  | imm v => exact sameMemory_refl s
  | mem m => simp only [loadOperand, loadMem_eq]; exact sameMemory_memRead _ s

/-- A CPU write changes no byte of RAM or of PRG memory but the one it goes to. -/
theorem peek_cpuWrite_other {a b : Word} (ha : IsMemory a) (h : ¬SameCell a b) (v : Byte) (s : State) :
    peek a (cpuWrite b v s) = peek a s := by
  rcases ha with ha | ha
  · rw [peek_ram ha, peek_ram ha]
    by_cases hb : b.toNat < 0x2000
    · rw [cpuWrite_ram hb]
      exact memory_read_write_other _ _ fun he => h ⟨ha, hb, he⟩
    · rw [cpuWrite_ram_other b v s (by omega)]
  · rw [peek_cart ha, peek_cart ha, cpuWrite_cartRead]

/-- A CPU write of memory touches no device. -/
theorem cpuWrite_plain {b : Word} (hb : IsMemory b) (v : Byte) (s : State) :
    (cpuWrite b v s).ppu = s.ppu ∧ (cpuWrite b v s).apu = s.apu ∧ (cpuWrite b v s).cart = s.cart ∧
      (cpuWrite b v s).bus = { s.bus with ram := (cpuWrite b v s).bus.ram } := by
  rcases hb with hb | hb
  · rw [cpuWrite_ram hb]; exact ⟨rfl, rfl, rfl, rfl⟩
  · rw [cpuWrite_cart hb]; exact ⟨rfl, rfl, rfl, rfl⟩

theorem storesOnlyAt_cpuWrite (ea : Word) (v : Byte) (s : State) : StoresOnlyAt ea s (cpuWrite ea v s) where
  others _ ha h := peek_cpuWrite_other ha h v s
  plain h := cpuWrite_plain h v s

/-- CPU registers are no memory and no device. -/
theorem storesOnlyAt_withCpu {ea : Word} {s t : State} (h : StoresOnlyAt ea s t) (c : Cpu) :
    StoresOnlyAt ea s { t with cpu := c } where
  others a ha h' := (peek_congr (s := { t with cpu := c }) (t := t) rfl rfl rfl rfl a).trans (h.others a ha h')
  plain := h.plain

/-! ## The status register -/

theorem getLsbD_setFlag (mask : Byte) (b : Bool) (p : Byte) (i : Nat) :
    (setFlag mask b p).getLsbD i = if mask.getLsbD i then decide (i < 8) && b else p.getLsbD i := by
  unfold setFlag
  cases b <;> cases hm : mask.getLsbD i <;> simp [hm]
  all_goals first
    | exact BitVec.lt_of_getLsbD hm
    | exact BitVec.lt_of_getLsbD

/-- `setNZ` in the vocabulary of the rules (R13). -/
theorem setsNZ_setNZ (v p : Byte) : SetsNZ v p (setNZ v p) where
  zero := by
    unfold flagZ setNZ maskN maskZ
    rw [getLsbD_setFlag, if_neg (by decide), getLsbD_setFlag, if_pos (by decide)]
    cases h : (v == 0#8) <;> simp_all
  negative := by
    unfold flagN setNZ maskN maskZ
    rw [getLsbD_setFlag, if_pos (by decide)]
    simp
  others := by
    unfold setNZ maskN maskZ
    apply BitVec.eq_of_getLsbD_eq
    intro i hi
    simp only [BitVec.getLsbD_and, getLsbD_setFlag]
    interval_cases i <;> simp

end Sys2Proof.Laws
end

