-- ==== Sys2Proof/Laws/InvClock.lean ====
section
/-! SUPPORT. The PPU's dot, the APU's tick, the DMA engine and the mixer keep the invariant. -/

namespace Sys2Proof.Laws

open Sys2Proof.Machine

/-- The PPU's invariant but for `nmi_out`, which may be set inside a step. -/
def PpuOk (p : Ppu) : Prop := Ppu.Inv { p with nmiOut := false }

theorem ppuOk_of_inv {p : Ppu} (h : p.Inv) : PpuOk p := { h with nmiOut := rfl }

theorem ppuOk_doWhen {p : Ppu} (h : PpuOk p) (b : Bool) {f : Ppu → Ppu} (hf : ∀ q, PpuOk q → PpuOk (f q)) :
    PpuOk (p.doWhen b f) := by
  unfold Ppu.doWhen
  split
  · exact hf p h
  · exact h

/-- A part of the schedule that touches only registers and latches. -/
def OnlyLatches (p q : Ppu) : Prop :=
  q.vram = p.vram ∧ q.palette = p.palette ∧ q.oam = p.oam ∧ q.frame = p.frame ∧ q.scanline = p.scanline ∧
    q.cycle = p.cycle ∧ q.spriteCount = p.spriteCount ∧ q.secOam = p.secOam ∧ q.slots = p.slots ∧ q.nmiOut = p.nmiOut

theorem ppuOk_latches {p q : Ppu} (h : PpuOk p) (hq : OnlyLatches p q) : PpuOk q := by
  obtain ⟨h1, h2, h3, h4, h5, h6, h7, h8, h9, _⟩ := hq
  exact
    { vram := h1 ▸ h.vram, palette := h2 ▸ h.palette, oam := h3 ▸ h.oam, frame := h4 ▸ h.frame
      scanlineGe := h5 ▸ h.scanlineGe, scanlineLe := h5 ▸ h.scanlineLe, cycleLe := h6 ▸ h.cycleLe
      spriteCountLe := h7 ▸ h.spriteCountLe, secOam := h8 ▸ h.secOam, slots := h9 ▸ h.slots, nmiOut := rfl }

theorem onlyLatches_refl (p : Ppu) : OnlyLatches p p := ⟨rfl, rfl, rfl, rfl, rfl, rfl, rfl, rfl, rfl, rfl⟩

theorem OnlyLatches.trans {p q r : Ppu} (h : OnlyLatches p q) (h' : OnlyLatches q r) : OnlyLatches p r := by
  obtain ⟨a1, a2, a3, a4, a5, a6, a7, a8, a9, a10⟩ := h
  obtain ⟨b1, b2, b3, b4, b5, b6, b7, b8, b9, b10⟩ := h'
  exact ⟨b1.trans a1, b2.trans a2, b3.trans a3, b4.trans a4, b5.trans a5, b6.trans a6, b7.trans a7, b8.trans a8,
    b9.trans a9, b10.trans a10⟩

theorem OnlyLatches.doWhen {p q : Ppu} (h : OnlyLatches p q) (b : Bool) {f : Ppu → Ppu}
    (hf : ∀ r, OnlyLatches r (f r)) : OnlyLatches p (q.doWhen b f) := by
  unfold Ppu.doWhen
  split
  · exact h.trans (hf q)
  · exact h

theorem backgroundGroup_latches (cart : Option Cartridge) (k : Nat) (p : Ppu) :
    OnlyLatches p (p.backgroundGroup cart k) := by
  unfold Ppu.backgroundGroup
  split <;> exact onlyLatches_refl p

/-- The background pipeline changes only latches, shifters and `v`. -/
theorem backgroundPipeline_latches (cart : Option Cartridge) (s : Int) (c : Nat) (p : Ppu) :
    OnlyLatches p (p.backgroundPipeline cart s c) := by
  unfold Ppu.backgroundPipeline
  dsimp only
  refine OnlyLatches.doWhen ?_ _ fun r => onlyLatches_refl r
  refine OnlyLatches.doWhen ?_ _ fun r => onlyLatches_refl r
  refine OnlyLatches.doWhen ?_ _ fun r => onlyLatches_refl r
  refine OnlyLatches.doWhen ?_ _ fun r => onlyLatches_refl r
  refine OnlyLatches.doWhen ?_ _ fun r => backgroundGroup_latches cart _ r
  refine OnlyLatches.doWhen ?_ _ fun r => onlyLatches_refl r
  exact (onlyLatches_refl p).doWhen _ fun r => onlyLatches_refl r

/-- The selection finds at most eight sprites (R426). -/
theorem selectSprites_length (oam : Memory) (s h fuel n count : Nat) (hc : count ≤ 8) :
    (selectSprites oam s h fuel n count).found.length + count ≤ 8 := by
  induction fuel generalizing n count with
  | zero => simpa [selectSprites] using hc
  | succ fuel ih =>
    unfold selectSprites
    split
    · simpa using hc
    · dsimp only
      split
      · have := ih (n + 1) (count + 1) (by omega)
        simp only [List.length_cons]
        omega
      · exact ih (n + 1) count hc

theorem spriteEvaluation_ok {p : Ppu} (h : PpuOk p) (s : Nat) : PpuOk (p.spriteEvaluation s) := by
  have hc : PpuOk p.clearSprites :=
    { h with
      spriteCountLe := Nat.zero_le 8
      secOam := by simp [Ppu.clearSprites]
      slots := by simpa [Ppu.clearSprites] using h.slots }
  unfold Ppu.spriteEvaluation
  dsimp only
  split
  · exact hc
  · have hlen := selectSprites_length p.clearSprites.oam s p.clearSprites.spriteHeight 64 0 0 (by omega)
    exact
      { hc with
        spriteCountLe := by simpa using hlen
        secOam := by simp only [List.length_append, List.length_replicate]; omega }

theorem fetchSlots_length (cart : Option Cartridge) (s count : Nat) (p : Ppu) (i : Nat) (slots : List SpriteSlot)
    (entries : List SpriteEntry) : (p.fetchSlots cart s count i slots entries).length = slots.length := by
  induction slots generalizing i entries with
  | nil => cases entries <;> rfl
  | cons sl slots ih =>
    cases entries with
    | nil => rfl
    | cons e entries => simp [Ppu.fetchSlots, ih]

theorem spriteFetch_ok {p : Ppu} (h : PpuOk p) (cart : Option Cartridge) (s : Nat) : PpuOk (p.spriteFetch cart s) := by
  unfold Ppu.spriteFetch
  dsimp only
  split
  · exact h
  · exact { h with slots := by rw [fetchSlots_length]; exact h.slots }

theorem spriteShift_ok {p : Ppu} (h : PpuOk p) (c : Nat) : PpuOk (p.spriteShift c) := by
  unfold Ppu.spriteShift
  split
  · refine { h with slots := ?_ }
    have := h.slots
    simp only [List.length_append, List.length_map, List.length_take, List.length_drop]
    dsimp only at this
    omega
  · exact h

theorem preRenderClear_ok {p : Ppu} (h : PpuOk p) : PpuOk p.preRenderClear :=
  { h with spriteCountLe := Nat.zero_le 8, slots := by simpa [Ppu.preRenderClear] using h.slots }

theorem enterVblank_ok {p : Ppu} (h : PpuOk p) : PpuOk p.enterVblank := { h with }

theorem pixelOutput_ok {p : Ppu} (h : PpuOk p) (cart : Option Cartridge) {s c : Nat} (hs : s ≤ 239) (hc : 1 ≤ c)
    (hc' : c ≤ 256) : PpuOk (p.pixelOutput cart s c) :=
  { h with frame := frame_wf_write h.frame (by omega) (by omega) _ }

theorem advance_ok {p : Ppu} (h : PpuOk p) : PpuOk p.advance := by
  have h1 := h.scanlineGe
  have h2 := h.scanlineLe
  have h3 := h.cycleLe
  dsimp only at h1 h2 h3
  unfold Ppu.advance
  split
  · split
    · exact { h with scanlineGe := by dsimp only; omega, scanlineLe := by dsimp only; omega, cycleLe := by dsimp only; omega }
    · exact { h with scanlineGe := by dsimp only; omega, scanlineLe := by dsimp only; omega, cycleLe := by dsimp only; omega }
  · exact { h with cycleLe := by dsimp only; omega }

/-- One dot keeps the PPU's invariant, but for `nmi_out`. -/
theorem ppuClock_ok {p : Ppu} (h : PpuOk p) (cart : Option Cartridge) : PpuOk (p.clock cart) := by
  unfold Ppu.clock
  dsimp only
  refine advance_ok ?_
  unfold Ppu.doWhen
  have h1 := ppuOk_doWhen h (p.scanline == -1 && p.cycle == 1) fun q hq => preRenderClear_ok hq
  have h2 := ppuOk_doWhen h1
    (decide (-1 ≤ p.scanline) && decide (p.scanline ≤ 239) &&
      (p.doWhen (p.scanline == -1 && p.cycle == 1) Ppu.preRenderClear).rendering)
    (f := fun q => (q.backgroundPipeline cart p.scanline p.cycle).spriteShift p.cycle)
    fun q hq => spriteShift_ok (ppuOk_latches hq (backgroundPipeline_latches cart p.scanline p.cycle q)) _
  have h3 := ppuOk_doWhen h2
    (decide (0 ≤ p.scanline) && decide (p.scanline ≤ 239) && p.cycle == 257)
    (f := Ppu.spriteEvaluation p.scanline.toNat) fun q hq => spriteEvaluation_ok hq _
  have h4 := ppuOk_doWhen h3
    (decide (0 ≤ p.scanline) && decide (p.scanline ≤ 239) && p.cycle == 320)
    (f := Ppu.spriteFetch cart p.scanline.toNat) fun q hq => spriteFetch_ok hq cart _
  have h5 := ppuOk_doWhen h4 (p.scanline == 241 && p.cycle == 1) (f := Ppu.enterVblank) fun q hq => enterVblank_ok hq
  unfold Ppu.doWhen at h1 h2 h3 h4 h5
  split
  · next hv =>
    simp only [Bool.and_eq_true, decide_eq_true_eq] at hv
    exact pixelOutput_ok h5 cart (by omega) hv.1.2 hv.2
  · exact h5

theorem ppuTick_ok {s : State} (h : s.Inv) : PpuOk (ppuTick s).ppu := ppuClock_ok (ppuOk_of_inv h.ppu) s.cart

/-- A tick of the sequencer keeps the APU's invariant (R466). -/
theorem frameSequencerTick_inv {a : Apu} (h : a.Inv) : a.frameSequencerTick.Inv := by
  have hf := h.frameCounter
  have key : ∀ b : Apu, b.Inv → b.frameMode = a.frameMode →
      Apu.Inv { b with frameCounter := if a.frameCounter + 1 = wrapCount b.frameMode then 0 else a.frameCounter + 1 } := by
    intro b hb hm
    refine { hb with frameCounter := ?_ }
    dsimp only
    rw [hm]
    split
    · exact wrapCount_pos _
    · omega
  unfold Apu.frameSequencerTick
  dsimp only
  split
  · exact key _ (quarterFrame_inv h) rfl
  · split
    · exact key _ (halfFrame_inv (quarterFrame_inv h)) rfl
    · exact key _ h rfl

/-- The noise register never becomes 0 (R503). -/
theorem lfsrShift_ne_zero (mode : Bool) {l : BitVec 15} (h : l ≠ 0#15) : lfsrShift mode l ≠ 0#15 := by
  intro h0
  apply h
  have hb : ∀ i, i < 15 → (lfsrShift mode l).getLsbD i = false := by
    intro i _; rw [h0]; simp
  have hhigh : ∀ i, 1 ≤ i → i < 15 → l.getLsbD i = false := by
    intro i hi hi'
    have := hb (i - 1) (by omega)
    unfold lfsrShift at this
    rw [BitVec.getLsbD_or, BitVec.getLsbD_ushiftRight] at this
    have h1 : 1 + (i - 1) = i := by omega
    rw [h1] at this
    simp only [Bool.or_eq_false_iff] at this
    exact this.1
  have h14 := hb 14 (by omega)
  have hz : l.getLsbD 0 = false := by
    unfold lfsrShift at h14
    rw [BitVec.getLsbD_or, BitVec.getLsbD_ushiftRight] at h14
    simp only [Bool.or_eq_false_iff] at h14
    have h6 := hhigh 6 (by omega) (by omega)
    have h1 := hhigh 1 (by omega) (by omega)
    have hx := h14.2
    rw [h6, h1] at hx
    cases hl : l.getLsbD 0
    · rfl
    · rw [hl] at hx
      cases mode <;> exact absurd hx (by decide)
  apply BitVec.eq_of_getLsbD_eq
  intro i hi
  rcases Nat.eq_zero_or_pos i with h0 | h0
  · subst h0; rw [hz]; simp
  · rw [hhigh i h0 hi]; simp

theorem noiseTimerTick_lfsr {n : Noise} (h : n.lfsr ≠ 0#15) : n.timerTick.lfsr ≠ 0#15 := by
  unfold Noise.timerTick
  split
  · exact lfsrShift_ne_zero n.mode h
  · exact h

theorem pulseTimerTick_length (p : Pulse) : p.timerTick.length = p.length := by
  unfold Pulse.timerTick; split <;> rfl

theorem triangleTimerTick_length (t : Triangle) : t.timerTick.length = t.length := by
  unfold Triangle.timerTick; split <;> rfl

theorem noiseTimerTick_length (n : Noise) : n.timerTick.length = n.length := by
  unfold Noise.timerTick; split <;> rfl

theorem cpuRateTick_inv {a : Apu} (h : a.Inv) : a.cpuRateTick.Inv :=
  frameSequencerTick_inv { h with lengthT := by rw [triangleTimerTick_length]; exact h.lengthT }

theorem apuRateTick_inv {a : Apu} (h : a.Inv) : a.apuRateTick.Inv :=
  { h with
    lfsr := noiseTimerTick_lfsr h.lfsr
    length1 := by unfold Apu.apuRateTick; rw [pulseTimerTick_length]; exact h.length1
    length2 := by unfold Apu.apuRateTick; rw [pulseTimerTick_length]; exact h.length2
    lengthN := by unfold Apu.apuRateTick; rw [noiseTimerTick_length]; exact h.lengthN }

/-- One tick keeps the APU's invariant (R463). -/
theorem apuClock_inv {a : Apu} (h : a.Inv) : a.clock.Inv := by
  have key : ∀ b : Apu, b.Inv → Apu.Inv { b with div := (a.div + 1) % 6 } := fun b hb =>
    { hb with div := by dsimp only; omega }
  unfold Apu.clock
  dsimp only
  by_cases h3 : a.div % 3 = 0
  · rw [if_pos h3]
    split
    · exact key _ (apuRateTick_inv (cpuRateTick_inv h))
    · exact key _ (cpuRateTick_inv h)
  · rw [if_neg h3]
    split
    · exact key _ (apuRateTick_inv h)
    · exact key _ h

@[simp] theorem apuClock_div (a : Apu) : a.clock.div = (a.div + 1) % 6 := rfl

theorem volumeOf_le (c : Bool) (v : BitVec 4) (e : Envelope) : volumeOf c v e ≤ 15 := by
  have := v.isLt
  have := e.decay.isLt
  unfold volumeOf
  split <;> omega

theorem pulseOut_le (o : Bool) (p : Pulse) : p.out o ≤ 15 := by
  unfold Pulse.out
  split
  · omega
  · exact volumeOf_le _ _ _

theorem triangleOut_le (t : Triangle) : t.out ≤ 15 := by
  have := t.step.isLt
  unfold Triangle.out triangleTable
  split <;> omega

theorem noiseOut_le (n : Noise) : n.out ≤ 15 := by
  unfold Noise.out
  split
  · omega
  · exact volumeOf_le _ _ _

theorem pulseMix_bounds {p1 p2 : Nat} (h1 : p1 ≤ 15) (h2 : p2 ≤ 15) : 0 ≤ pulseMix p1 p2 ∧ pulseMix p1 p2 ≤ 3 / 10 := by
  unfold pulseMix
  split
  · norm_num
  · next h =>
    have hpos : (0 : Rat) < ((p1 + p2 : Nat) : Rat) := by exact_mod_cast Nat.pos_of_ne_zero h
    have hle : ((p1 + p2 : Nat) : Rat) ≤ 30 := by exact_mod_cast (by omega : p1 + p2 ≤ 30)
    have hq : (8128 / 30 : Rat) ≤ 8128 / ((p1 + p2 : Nat) : Rat) := div_le_div_of_nonneg_left (by norm_num) hpos hle
    refine ⟨by positivity, ?_⟩
    rw [div_le_iff₀ (by positivity)]
    linarith

theorem tndMix_bounds {t n : Nat} (h1 : t ≤ 15) (h2 : n ≤ 15) : 0 ≤ tndMix t n ∧ tndMix t n ≤ 4 / 10 := by
  unfold tndMix
  split
  · norm_num
  · next h =>
    have ht : (0 : Rat) ≤ (t : Rat) := by positivity
    have hn : (0 : Rat) ≤ (n : Rat) := by positivity
    have ht' : (t : Rat) ≤ 15 := by exact_mod_cast h1
    have hn' : (n : Rat) ≤ 15 := by exact_mod_cast h2
    have hpos : (0 : Rat) < (t : Rat) / 8227 + (n : Rat) / 12241 := by
      rcases Nat.eq_zero_or_pos t with h0 | h0
      · have : 0 < n := Nat.pos_of_ne_zero fun hn0 => h ⟨h0, hn0⟩
        have : (0 : Rat) < (n : Rat) := by exact_mod_cast this
        positivity
      · have : (0 : Rat) < (t : Rat) := by exact_mod_cast h0
        positivity
    have hle : (t : Rat) / 8227 + (n : Rat) / 12241 ≤ 1 / 320 := by
      rw [div_add_div _ _ (by norm_num) (by norm_num), div_le_div_iff₀ (by norm_num) (by norm_num)]
      linarith
    have hq : (320 : Rat) ≤ 1 / ((t : Rat) / 8227 + (n : Rat) / 12241) := by
      rw [le_div_iff₀ hpos]; linarith
    refine ⟨by positivity, ?_⟩
    rw [div_le_iff₀ (by positivity)]
    linarith

/-- The mixed sample lies in [0, 7/10], so in [0, 1) (R520). -/
theorem mix_bounds (a : Apu) : 0 ≤ a.mix ∧ a.mix ≤ 7 / 10 := by
  have hp := pulseMix_bounds (pulseOut_le true a.pulse1) (pulseOut_le false a.pulse2)
  have ht := tndMix_bounds (triangleOut_le a.triangle) (noiseOut_le a.noise)
  unfold Apu.mix
  constructor <;> linarith [hp.1, hp.2, ht.1, ht.2]

/-- A DMA slot keeps the invariant (R361). -/
theorem dmaStep_inv {s : State} (h : s.Inv) : (dmaStep s).Inv := by
  unfold dmaStep
  split
  · split
    · exact { h with bus := { h.bus with } }
    · exact h
  · split
    · have := memRead_inv h (wordOf s.bus.dma.addr s.bus.dma.page)
      exact { this with bus := { this.bus with } }
    · exact { h with bus := { h.bus with }, ppu := writeOamData_inv h.ppu _ }

theorem sampleRate_le : Config.sampleRateHz ≤ Config.dotRateHz := by
  have := Config.sampleRateIndex.isLt
  unfold Config.sampleRateHz Config.dotRateHz
  omega

end Sys2Proof.Laws
end

