-- ==== Sys2Proof/Laws/PerInstr.lean ====
section
/-! SUPPORT. The family EncodeDecode: one lemma for each constructor of `Instr` that its encoding has the length of its
form and is read back by the decoder's table, every operand byte included. -/

namespace Sys2Proof.Laws

open Sys2Proof.Machine

/-- The two bytes of a word make the word. -/
@[simp] theorem wordOf_bytes (w : Word) : wordOf (loByte w) (hiByte w) = w := by
  have := w.isLt
  apply BitVec.eq_of_toNat_eq
  simp only [wordOf, loByte, hiByte, BitVec.toNat_ofNat]
  omega

@[simp] theorem loByte_wordOf (lo hi : Byte) : loByte (wordOf lo hi) = lo := by
  have := lo.isLt
  have := hi.isLt
  apply BitVec.eq_of_toNat_eq
  simp only [wordOf, loByte, BitVec.toNat_ofNat]
  omega

@[simp] theorem hiByte_wordOf (lo hi : Byte) : hiByte (wordOf lo hi) = hi := by
  have := lo.isLt
  have := hi.isLt
  apply BitVec.eq_of_toNat_eq
  simp only [wordOf, hiByte, BitVec.toNat_ofNat]
  omega

/-- The instruction has an opcode, of its own length, and the table reads the instruction back from its bytes. -/
def EncodeDecode.Statement (i : Instr) : Prop :=
  i.wf = true →
    ∃ op,
      i.opcode? = some op ∧ opcodeLength op = i.length ∧ i.operandBytes.length + 1 = i.length ∧
        instrOf op (i.operandBytes.getD 0 0#8) (i.operandBytes.getD 1 0#8) = i

/-- An absolute form: the table gives back the word of its two operand bytes. -/
theorem EncodeDecode.ofWord {i : Instr} {op : Byte} {f : Word → Instr} {w : Word} (hop : i.opcode? = some op)
    (hlen : opcodeLength op = 3) (hn : i.length = 3) (hb : i.operandBytes = [loByte w, hiByte w])
    (hf : ∀ b1 b2, instrOf op b1 b2 = f (wordOf b1 b2)) (hi : f w = i) : EncodeDecode.Statement i := by
  intro _
  refine ⟨op, hop, hlen.trans hn.symm, by rw [hb, hn]; rfl, ?_⟩
  rw [hb, hf]
  simp [hi]

namespace EncodeDecode

theorem lda (m : ReadOperand) : Statement (.lda m) := by
  cases m with
  | imm _ => exact fun _ => ⟨_, rfl, rfl, rfl, rfl⟩
  | mem m =>
    cases m with
    | zp0 _ => exact fun _ => ⟨_, rfl, rfl, rfl, rfl⟩
    | zpx _ => exact fun _ => ⟨_, rfl, rfl, rfl, rfl⟩
    | zpy _ => exact fun h => by cases h
    | abs _ => exact ofWord (f := fun w => .lda (.mem (.abs w))) rfl rfl rfl rfl (fun _ _ => rfl) rfl
    | abx _ => exact ofWord (f := fun w => .lda (.mem (.abx w))) rfl rfl rfl rfl (fun _ _ => rfl) rfl
    | aby _ => exact ofWord (f := fun w => .lda (.mem (.aby w))) rfl rfl rfl rfl (fun _ _ => rfl) rfl
    | izx _ => exact fun _ => ⟨_, rfl, rfl, rfl, rfl⟩
    | izy _ => exact fun _ => ⟨_, rfl, rfl, rfl, rfl⟩

theorem ldx (m : ReadOperand) : Statement (.ldx m) := by
  cases m with
  | imm _ => exact fun _ => ⟨_, rfl, rfl, rfl, rfl⟩
  | mem m =>
    cases m with
    | zp0 _ => exact fun _ => ⟨_, rfl, rfl, rfl, rfl⟩
    | zpx _ => exact fun h => by cases h
    | zpy _ => exact fun _ => ⟨_, rfl, rfl, rfl, rfl⟩
    | abs _ => exact ofWord (f := fun w => .ldx (.mem (.abs w))) rfl rfl rfl rfl (fun _ _ => rfl) rfl
    | abx _ => exact fun h => by cases h
    | aby _ => exact ofWord (f := fun w => .ldx (.mem (.aby w))) rfl rfl rfl rfl (fun _ _ => rfl) rfl
    | izx _ => exact fun h => by cases h
    | izy _ => exact fun h => by cases h

theorem ldy (m : ReadOperand) : Statement (.ldy m) := by
  cases m with
  | imm _ => exact fun _ => ⟨_, rfl, rfl, rfl, rfl⟩
  | mem m =>
    cases m with
    | zp0 _ => exact fun _ => ⟨_, rfl, rfl, rfl, rfl⟩
    | zpx _ => exact fun _ => ⟨_, rfl, rfl, rfl, rfl⟩
    | zpy _ => exact fun h => by cases h
    | abs _ => exact ofWord (f := fun w => .ldy (.mem (.abs w))) rfl rfl rfl rfl (fun _ _ => rfl) rfl
    | abx _ => exact ofWord (f := fun w => .ldy (.mem (.abx w))) rfl rfl rfl rfl (fun _ _ => rfl) rfl
    | aby _ => exact fun h => by cases h
    | izx _ => exact fun h => by cases h
    | izy _ => exact fun h => by cases h

theorem sta (m : MemOperand) : Statement (.sta m) := by
  cases m with
  | zp0 _ => exact fun _ => ⟨_, rfl, rfl, rfl, rfl⟩
  | zpx _ => exact fun _ => ⟨_, rfl, rfl, rfl, rfl⟩
  | zpy _ => exact fun h => by cases h
  | abs _ => exact ofWord (f := fun w => .sta (.abs w)) rfl rfl rfl rfl (fun _ _ => rfl) rfl
  | abx _ => exact ofWord (f := fun w => .sta (.abx w)) rfl rfl rfl rfl (fun _ _ => rfl) rfl
  | aby _ => exact ofWord (f := fun w => .sta (.aby w)) rfl rfl rfl rfl (fun _ _ => rfl) rfl
  | izx _ => exact fun _ => ⟨_, rfl, rfl, rfl, rfl⟩
  | izy _ => exact fun _ => ⟨_, rfl, rfl, rfl, rfl⟩

theorem stx (m : MemOperand) : Statement (.stx m) := by
  cases m with
  | zp0 _ => exact fun _ => ⟨_, rfl, rfl, rfl, rfl⟩
  | zpx _ => exact fun h => by cases h
  | zpy _ => exact fun _ => ⟨_, rfl, rfl, rfl, rfl⟩
  | abs _ => exact ofWord (f := fun w => .stx (.abs w)) rfl rfl rfl rfl (fun _ _ => rfl) rfl
  | abx _ => exact fun h => by cases h
  | aby _ => exact fun h => by cases h
  | izx _ => exact fun h => by cases h
  | izy _ => exact fun h => by cases h

theorem sty (m : MemOperand) : Statement (.sty m) := by
  cases m with
  | zp0 _ => exact fun _ => ⟨_, rfl, rfl, rfl, rfl⟩
  | zpx _ => exact fun _ => ⟨_, rfl, rfl, rfl, rfl⟩
  | zpy _ => exact fun h => by cases h
  | abs _ => exact ofWord (f := fun w => .sty (.abs w)) rfl rfl rfl rfl (fun _ _ => rfl) rfl
  | abx _ => exact fun h => by cases h
  | aby _ => exact fun h => by cases h
  | izx _ => exact fun h => by cases h
  | izy _ => exact fun h => by cases h

theorem tax : Statement .tax := fun _ => ⟨_, rfl, rfl, rfl, rfl⟩
theorem tay : Statement .tay := fun _ => ⟨_, rfl, rfl, rfl, rfl⟩
theorem txa : Statement .txa := fun _ => ⟨_, rfl, rfl, rfl, rfl⟩
theorem tya : Statement .tya := fun _ => ⟨_, rfl, rfl, rfl, rfl⟩
theorem tsx : Statement .tsx := fun _ => ⟨_, rfl, rfl, rfl, rfl⟩
theorem txs : Statement .txs := fun _ => ⟨_, rfl, rfl, rfl, rfl⟩
theorem adc (m : ReadOperand) : Statement (.adc m) := by
  cases m with
  | imm _ => exact fun _ => ⟨_, rfl, rfl, rfl, rfl⟩
  | mem m =>
    cases m with
    | zp0 _ => exact fun _ => ⟨_, rfl, rfl, rfl, rfl⟩
    | zpx _ => exact fun _ => ⟨_, rfl, rfl, rfl, rfl⟩
    | zpy _ => exact fun h => by cases h
    | abs _ => exact ofWord (f := fun w => .adc (.mem (.abs w))) rfl rfl rfl rfl (fun _ _ => rfl) rfl
    | abx _ => exact ofWord (f := fun w => .adc (.mem (.abx w))) rfl rfl rfl rfl (fun _ _ => rfl) rfl
    | aby _ => exact ofWord (f := fun w => .adc (.mem (.aby w))) rfl rfl rfl rfl (fun _ _ => rfl) rfl
    | izx _ => exact fun _ => ⟨_, rfl, rfl, rfl, rfl⟩
    | izy _ => exact fun _ => ⟨_, rfl, rfl, rfl, rfl⟩

theorem sbc (m : ReadOperand) : Statement (.sbc m) := by
  cases m with
  | imm _ => exact fun _ => ⟨_, rfl, rfl, rfl, rfl⟩
  | mem m =>
    cases m with
    | zp0 _ => exact fun _ => ⟨_, rfl, rfl, rfl, rfl⟩
    | zpx _ => exact fun _ => ⟨_, rfl, rfl, rfl, rfl⟩
    | zpy _ => exact fun h => by cases h
    | abs _ => exact ofWord (f := fun w => .sbc (.mem (.abs w))) rfl rfl rfl rfl (fun _ _ => rfl) rfl
    | abx _ => exact ofWord (f := fun w => .sbc (.mem (.abx w))) rfl rfl rfl rfl (fun _ _ => rfl) rfl
    | aby _ => exact ofWord (f := fun w => .sbc (.mem (.aby w))) rfl rfl rfl rfl (fun _ _ => rfl) rfl
    | izx _ => exact fun _ => ⟨_, rfl, rfl, rfl, rfl⟩
    | izy _ => exact fun _ => ⟨_, rfl, rfl, rfl, rfl⟩

theorem and (m : ReadOperand) : Statement (.and m) := by
  cases m with
  | imm _ => exact fun _ => ⟨_, rfl, rfl, rfl, rfl⟩
  | mem m =>
    cases m with
    | zp0 _ => exact fun _ => ⟨_, rfl, rfl, rfl, rfl⟩
    | zpx _ => exact fun _ => ⟨_, rfl, rfl, rfl, rfl⟩
    | zpy _ => exact fun h => by cases h
    | abs _ => exact ofWord (f := fun w => .and (.mem (.abs w))) rfl rfl rfl rfl (fun _ _ => rfl) rfl
    | abx _ => exact ofWord (f := fun w => .and (.mem (.abx w))) rfl rfl rfl rfl (fun _ _ => rfl) rfl
    | aby _ => exact ofWord (f := fun w => .and (.mem (.aby w))) rfl rfl rfl rfl (fun _ _ => rfl) rfl
    | izx _ => exact fun _ => ⟨_, rfl, rfl, rfl, rfl⟩
    | izy _ => exact fun _ => ⟨_, rfl, rfl, rfl, rfl⟩

theorem ora (m : ReadOperand) : Statement (.ora m) := by
  cases m with
  | imm _ => exact fun _ => ⟨_, rfl, rfl, rfl, rfl⟩
  | mem m =>
    cases m with
    | zp0 _ => exact fun _ => ⟨_, rfl, rfl, rfl, rfl⟩
    | zpx _ => exact fun _ => ⟨_, rfl, rfl, rfl, rfl⟩
    | zpy _ => exact fun h => by cases h
    | abs _ => exact ofWord (f := fun w => .ora (.mem (.abs w))) rfl rfl rfl rfl (fun _ _ => rfl) rfl
    | abx _ => exact ofWord (f := fun w => .ora (.mem (.abx w))) rfl rfl rfl rfl (fun _ _ => rfl) rfl
    | aby _ => exact ofWord (f := fun w => .ora (.mem (.aby w))) rfl rfl rfl rfl (fun _ _ => rfl) rfl
    | izx _ => exact fun _ => ⟨_, rfl, rfl, rfl, rfl⟩
    | izy _ => exact fun _ => ⟨_, rfl, rfl, rfl, rfl⟩

theorem eor (m : ReadOperand) : Statement (.eor m) := by
  cases m with
  | imm _ => exact fun _ => ⟨_, rfl, rfl, rfl, rfl⟩
  | mem m =>
    cases m with
    | zp0 _ => exact fun _ => ⟨_, rfl, rfl, rfl, rfl⟩
    | zpx _ => exact fun _ => ⟨_, rfl, rfl, rfl, rfl⟩
    | zpy _ => exact fun h => by cases h
    | abs _ => exact ofWord (f := fun w => .eor (.mem (.abs w))) rfl rfl rfl rfl (fun _ _ => rfl) rfl
    | abx _ => exact ofWord (f := fun w => .eor (.mem (.abx w))) rfl rfl rfl rfl (fun _ _ => rfl) rfl
    | aby _ => exact ofWord (f := fun w => .eor (.mem (.aby w))) rfl rfl rfl rfl (fun _ _ => rfl) rfl
    | izx _ => exact fun _ => ⟨_, rfl, rfl, rfl, rfl⟩
    | izy _ => exact fun _ => ⟨_, rfl, rfl, rfl, rfl⟩

theorem bit (m : MemOperand) : Statement (.bit m) := by
  cases m with
  | zp0 _ => exact fun _ => ⟨_, rfl, rfl, rfl, rfl⟩
  | zpx _ => exact fun h => by cases h
  | zpy _ => exact fun h => by cases h
  | abs _ => exact ofWord (f := fun w => .bit (.abs w)) rfl rfl rfl rfl (fun _ _ => rfl) rfl
  | abx _ => exact fun h => by cases h
  | aby _ => exact fun h => by cases h
  | izx _ => exact fun h => by cases h
  | izy _ => exact fun h => by cases h

theorem cmp (m : ReadOperand) : Statement (.cmp m) := by
  cases m with
  | imm _ => exact fun _ => ⟨_, rfl, rfl, rfl, rfl⟩
  | mem m =>
    cases m with
    | zp0 _ => exact fun _ => ⟨_, rfl, rfl, rfl, rfl⟩
    | zpx _ => exact fun _ => ⟨_, rfl, rfl, rfl, rfl⟩
    | zpy _ => exact fun h => by cases h
    | abs _ => exact ofWord (f := fun w => .cmp (.mem (.abs w))) rfl rfl rfl rfl (fun _ _ => rfl) rfl
    | abx _ => exact ofWord (f := fun w => .cmp (.mem (.abx w))) rfl rfl rfl rfl (fun _ _ => rfl) rfl
    | aby _ => exact ofWord (f := fun w => .cmp (.mem (.aby w))) rfl rfl rfl rfl (fun _ _ => rfl) rfl
    | izx _ => exact fun _ => ⟨_, rfl, rfl, rfl, rfl⟩
    | izy _ => exact fun _ => ⟨_, rfl, rfl, rfl, rfl⟩

theorem cpx (m : ReadOperand) : Statement (.cpx m) := by
  cases m with
  | imm _ => exact fun _ => ⟨_, rfl, rfl, rfl, rfl⟩
  | mem m =>
    cases m with
    | zp0 _ => exact fun _ => ⟨_, rfl, rfl, rfl, rfl⟩
    | zpx _ => exact fun h => by cases h
    | zpy _ => exact fun h => by cases h
    | abs _ => exact ofWord (f := fun w => .cpx (.mem (.abs w))) rfl rfl rfl rfl (fun _ _ => rfl) rfl
    | abx _ => exact fun h => by cases h
    | aby _ => exact fun h => by cases h
    | izx _ => exact fun h => by cases h
    | izy _ => exact fun h => by cases h

theorem cpy (m : ReadOperand) : Statement (.cpy m) := by
  cases m with
  | imm _ => exact fun _ => ⟨_, rfl, rfl, rfl, rfl⟩
  | mem m =>
    cases m with
    | zp0 _ => exact fun _ => ⟨_, rfl, rfl, rfl, rfl⟩
    | zpx _ => exact fun h => by cases h
    | zpy _ => exact fun h => by cases h
    | abs _ => exact ofWord (f := fun w => .cpy (.mem (.abs w))) rfl rfl rfl rfl (fun _ _ => rfl) rfl
    | abx _ => exact fun h => by cases h
    | aby _ => exact fun h => by cases h
    | izx _ => exact fun h => by cases h
    | izy _ => exact fun h => by cases h

theorem asl (m : ShiftOperand) : Statement (.asl m) := by
  cases m with
  | acc => exact fun _ => ⟨_, rfl, rfl, rfl, rfl⟩
  | mem m =>
    cases m with
    | zp0 _ => exact fun _ => ⟨_, rfl, rfl, rfl, rfl⟩
    | zpx _ => exact fun _ => ⟨_, rfl, rfl, rfl, rfl⟩
    | zpy _ => exact fun h => by cases h
    | abs _ => exact ofWord (f := fun w => .asl (.mem (.abs w))) rfl rfl rfl rfl (fun _ _ => rfl) rfl
    | abx _ => exact ofWord (f := fun w => .asl (.mem (.abx w))) rfl rfl rfl rfl (fun _ _ => rfl) rfl
    | aby _ => exact fun h => by cases h
    | izx _ => exact fun h => by cases h
    | izy _ => exact fun h => by cases h

theorem lsr (m : ShiftOperand) : Statement (.lsr m) := by
  cases m with
  | acc => exact fun _ => ⟨_, rfl, rfl, rfl, rfl⟩
  | mem m =>
    cases m with
    | zp0 _ => exact fun _ => ⟨_, rfl, rfl, rfl, rfl⟩
    | zpx _ => exact fun _ => ⟨_, rfl, rfl, rfl, rfl⟩
    | zpy _ => exact fun h => by cases h
    | abs _ => exact ofWord (f := fun w => .lsr (.mem (.abs w))) rfl rfl rfl rfl (fun _ _ => rfl) rfl
    | abx _ => exact ofWord (f := fun w => .lsr (.mem (.abx w))) rfl rfl rfl rfl (fun _ _ => rfl) rfl
    | aby _ => exact fun h => by cases h
    | izx _ => exact fun h => by cases h
    | izy _ => exact fun h => by cases h

theorem rol (m : ShiftOperand) : Statement (.rol m) := by
  cases m with
  | acc => exact fun _ => ⟨_, rfl, rfl, rfl, rfl⟩
  | mem m =>
    cases m with
    | zp0 _ => exact fun _ => ⟨_, rfl, rfl, rfl, rfl⟩
    | zpx _ => exact fun _ => ⟨_, rfl, rfl, rfl, rfl⟩
    | zpy _ => exact fun h => by cases h
    | abs _ => exact ofWord (f := fun w => .rol (.mem (.abs w))) rfl rfl rfl rfl (fun _ _ => rfl) rfl
    | abx _ => exact ofWord (f := fun w => .rol (.mem (.abx w))) rfl rfl rfl rfl (fun _ _ => rfl) rfl
    | aby _ => exact fun h => by cases h
    | izx _ => exact fun h => by cases h
    | izy _ => exact fun h => by cases h

theorem ror (m : ShiftOperand) : Statement (.ror m) := by
  cases m with
  | acc => exact fun _ => ⟨_, rfl, rfl, rfl, rfl⟩
  | mem m =>
    cases m with
    | zp0 _ => exact fun _ => ⟨_, rfl, rfl, rfl, rfl⟩
    | zpx _ => exact fun _ => ⟨_, rfl, rfl, rfl, rfl⟩
    | zpy _ => exact fun h => by cases h
    | abs _ => exact ofWord (f := fun w => .ror (.mem (.abs w))) rfl rfl rfl rfl (fun _ _ => rfl) rfl
    | abx _ => exact ofWord (f := fun w => .ror (.mem (.abx w))) rfl rfl rfl rfl (fun _ _ => rfl) rfl
    | aby _ => exact fun h => by cases h
    | izx _ => exact fun h => by cases h
    | izy _ => exact fun h => by cases h

theorem inc (m : MemOperand) : Statement (.inc m) := by
  cases m with
  | zp0 _ => exact fun _ => ⟨_, rfl, rfl, rfl, rfl⟩
  | zpx _ => exact fun _ => ⟨_, rfl, rfl, rfl, rfl⟩
  | zpy _ => exact fun h => by cases h
  | abs _ => exact ofWord (f := fun w => .inc (.abs w)) rfl rfl rfl rfl (fun _ _ => rfl) rfl
  | abx _ => exact ofWord (f := fun w => .inc (.abx w)) rfl rfl rfl rfl (fun _ _ => rfl) rfl
  | aby _ => exact fun h => by cases h
  | izx _ => exact fun h => by cases h
  | izy _ => exact fun h => by cases h

theorem dec (m : MemOperand) : Statement (.dec m) := by
  cases m with
  | zp0 _ => exact fun _ => ⟨_, rfl, rfl, rfl, rfl⟩
  | zpx _ => exact fun _ => ⟨_, rfl, rfl, rfl, rfl⟩
  | zpy _ => exact fun h => by cases h
  | abs _ => exact ofWord (f := fun w => .dec (.abs w)) rfl rfl rfl rfl (fun _ _ => rfl) rfl
  | abx _ => exact ofWord (f := fun w => .dec (.abx w)) rfl rfl rfl rfl (fun _ _ => rfl) rfl
  | aby _ => exact fun h => by cases h
  | izx _ => exact fun h => by cases h
  | izy _ => exact fun h => by cases h

theorem inx : Statement .inx := fun _ => ⟨_, rfl, rfl, rfl, rfl⟩
theorem iny : Statement .iny := fun _ => ⟨_, rfl, rfl, rfl, rfl⟩
theorem dex : Statement .dex := fun _ => ⟨_, rfl, rfl, rfl, rfl⟩
theorem dey : Statement .dey := fun _ => ⟨_, rfl, rfl, rfl, rfl⟩
theorem jmp (t : JumpTarget) : Statement (.jmp t) := by
  cases t with
  | abs _ => exact ofWord (f := fun w => .jmp (.abs w)) rfl rfl rfl rfl (fun _ _ => rfl) rfl
  | ind _ => exact ofWord (f := fun w => .jmp (.ind w)) rfl rfl rfl rfl (fun _ _ => rfl) rfl

theorem jsr (w : Word) : Statement (.jsr w) :=
  ofWord (f := fun w => .jsr w) rfl rfl rfl rfl (fun _ _ => rfl) rfl

theorem rts : Statement .rts := fun _ => ⟨_, rfl, rfl, rfl, rfl⟩
theorem bcc (off : Byte) : Statement (.bcc off) := fun _ => ⟨_, rfl, rfl, rfl, rfl⟩

theorem bcs (off : Byte) : Statement (.bcs off) := fun _ => ⟨_, rfl, rfl, rfl, rfl⟩

theorem beq (off : Byte) : Statement (.beq off) := fun _ => ⟨_, rfl, rfl, rfl, rfl⟩

theorem bne (off : Byte) : Statement (.bne off) := fun _ => ⟨_, rfl, rfl, rfl, rfl⟩

theorem bmi (off : Byte) : Statement (.bmi off) := fun _ => ⟨_, rfl, rfl, rfl, rfl⟩

theorem bpl (off : Byte) : Statement (.bpl off) := fun _ => ⟨_, rfl, rfl, rfl, rfl⟩

theorem bvc (off : Byte) : Statement (.bvc off) := fun _ => ⟨_, rfl, rfl, rfl, rfl⟩

theorem bvs (off : Byte) : Statement (.bvs off) := fun _ => ⟨_, rfl, rfl, rfl, rfl⟩

theorem pha : Statement .pha := fun _ => ⟨_, rfl, rfl, rfl, rfl⟩
theorem pla : Statement .pla := fun _ => ⟨_, rfl, rfl, rfl, rfl⟩
theorem php : Statement .php := fun _ => ⟨_, rfl, rfl, rfl, rfl⟩
theorem plp : Statement .plp := fun _ => ⟨_, rfl, rfl, rfl, rfl⟩
theorem clc : Statement .clc := fun _ => ⟨_, rfl, rfl, rfl, rfl⟩
theorem sec : Statement .sec := fun _ => ⟨_, rfl, rfl, rfl, rfl⟩
theorem cli : Statement .cli := fun _ => ⟨_, rfl, rfl, rfl, rfl⟩
theorem sei : Statement .sei := fun _ => ⟨_, rfl, rfl, rfl, rfl⟩
theorem cld : Statement .cld := fun _ => ⟨_, rfl, rfl, rfl, rfl⟩
theorem sed : Statement .sed := fun _ => ⟨_, rfl, rfl, rfl, rfl⟩
theorem clv : Statement .clv := fun _ => ⟨_, rfl, rfl, rfl, rfl⟩
theorem nop : Statement .nop := fun _ => ⟨_, rfl, rfl, rfl, rfl⟩
theorem brk : Statement .brk := fun _ => ⟨_, rfl, rfl, rfl, rfl⟩
theorem rti : Statement .rti := fun _ => ⟨_, rfl, rfl, rfl, rfl⟩
theorem und02 : Statement .und02 := fun _ => ⟨_, rfl, rfl, rfl, rfl⟩
theorem und03 : Statement .und03 := fun _ => ⟨_, rfl, rfl, rfl, rfl⟩
theorem und04 : Statement .und04 := fun _ => ⟨_, rfl, rfl, rfl, rfl⟩
theorem und07 : Statement .und07 := fun _ => ⟨_, rfl, rfl, rfl, rfl⟩
theorem und0B : Statement .und0B := fun _ => ⟨_, rfl, rfl, rfl, rfl⟩
theorem und0C : Statement .und0C := fun _ => ⟨_, rfl, rfl, rfl, rfl⟩
theorem und0F : Statement .und0F := fun _ => ⟨_, rfl, rfl, rfl, rfl⟩
theorem und12 : Statement .und12 := fun _ => ⟨_, rfl, rfl, rfl, rfl⟩
theorem und13 : Statement .und13 := fun _ => ⟨_, rfl, rfl, rfl, rfl⟩
theorem und14 : Statement .und14 := fun _ => ⟨_, rfl, rfl, rfl, rfl⟩
theorem und17 : Statement .und17 := fun _ => ⟨_, rfl, rfl, rfl, rfl⟩
theorem und1A : Statement .und1A := fun _ => ⟨_, rfl, rfl, rfl, rfl⟩
theorem und1B : Statement .und1B := fun _ => ⟨_, rfl, rfl, rfl, rfl⟩
theorem und1C : Statement .und1C := fun _ => ⟨_, rfl, rfl, rfl, rfl⟩
theorem und1F : Statement .und1F := fun _ => ⟨_, rfl, rfl, rfl, rfl⟩
theorem und22 : Statement .und22 := fun _ => ⟨_, rfl, rfl, rfl, rfl⟩
theorem und23 : Statement .und23 := fun _ => ⟨_, rfl, rfl, rfl, rfl⟩
theorem und27 : Statement .und27 := fun _ => ⟨_, rfl, rfl, rfl, rfl⟩
theorem und2B : Statement .und2B := fun _ => ⟨_, rfl, rfl, rfl, rfl⟩
theorem und2F : Statement .und2F := fun _ => ⟨_, rfl, rfl, rfl, rfl⟩
theorem und32 : Statement .und32 := fun _ => ⟨_, rfl, rfl, rfl, rfl⟩
theorem und33 : Statement .und33 := fun _ => ⟨_, rfl, rfl, rfl, rfl⟩
theorem und34 : Statement .und34 := fun _ => ⟨_, rfl, rfl, rfl, rfl⟩
theorem und37 : Statement .und37 := fun _ => ⟨_, rfl, rfl, rfl, rfl⟩
theorem und3A : Statement .und3A := fun _ => ⟨_, rfl, rfl, rfl, rfl⟩
theorem und3B : Statement .und3B := fun _ => ⟨_, rfl, rfl, rfl, rfl⟩
theorem und3C : Statement .und3C := fun _ => ⟨_, rfl, rfl, rfl, rfl⟩
theorem und3F : Statement .und3F := fun _ => ⟨_, rfl, rfl, rfl, rfl⟩
theorem und42 : Statement .und42 := fun _ => ⟨_, rfl, rfl, rfl, rfl⟩
theorem und43 : Statement .und43 := fun _ => ⟨_, rfl, rfl, rfl, rfl⟩
theorem und44 : Statement .und44 := fun _ => ⟨_, rfl, rfl, rfl, rfl⟩
theorem und47 : Statement .und47 := fun _ => ⟨_, rfl, rfl, rfl, rfl⟩
theorem und4B : Statement .und4B := fun _ => ⟨_, rfl, rfl, rfl, rfl⟩
theorem und4F : Statement .und4F := fun _ => ⟨_, rfl, rfl, rfl, rfl⟩
theorem und52 : Statement .und52 := fun _ => ⟨_, rfl, rfl, rfl, rfl⟩
theorem und53 : Statement .und53 := fun _ => ⟨_, rfl, rfl, rfl, rfl⟩
theorem und54 : Statement .und54 := fun _ => ⟨_, rfl, rfl, rfl, rfl⟩
theorem und57 : Statement .und57 := fun _ => ⟨_, rfl, rfl, rfl, rfl⟩
theorem und5A : Statement .und5A := fun _ => ⟨_, rfl, rfl, rfl, rfl⟩
theorem und5B : Statement .und5B := fun _ => ⟨_, rfl, rfl, rfl, rfl⟩
theorem und5C : Statement .und5C := fun _ => ⟨_, rfl, rfl, rfl, rfl⟩
theorem und5F : Statement .und5F := fun _ => ⟨_, rfl, rfl, rfl, rfl⟩
theorem und62 : Statement .und62 := fun _ => ⟨_, rfl, rfl, rfl, rfl⟩
theorem und63 : Statement .und63 := fun _ => ⟨_, rfl, rfl, rfl, rfl⟩
theorem und64 : Statement .und64 := fun _ => ⟨_, rfl, rfl, rfl, rfl⟩
theorem und67 : Statement .und67 := fun _ => ⟨_, rfl, rfl, rfl, rfl⟩
theorem und6B : Statement .und6B := fun _ => ⟨_, rfl, rfl, rfl, rfl⟩
theorem und6F : Statement .und6F := fun _ => ⟨_, rfl, rfl, rfl, rfl⟩
theorem und72 : Statement .und72 := fun _ => ⟨_, rfl, rfl, rfl, rfl⟩
theorem und73 : Statement .und73 := fun _ => ⟨_, rfl, rfl, rfl, rfl⟩
theorem und74 : Statement .und74 := fun _ => ⟨_, rfl, rfl, rfl, rfl⟩
theorem und77 : Statement .und77 := fun _ => ⟨_, rfl, rfl, rfl, rfl⟩
theorem und7A : Statement .und7A := fun _ => ⟨_, rfl, rfl, rfl, rfl⟩
theorem und7B : Statement .und7B := fun _ => ⟨_, rfl, rfl, rfl, rfl⟩
theorem und7C : Statement .und7C := fun _ => ⟨_, rfl, rfl, rfl, rfl⟩
theorem und7F : Statement .und7F := fun _ => ⟨_, rfl, rfl, rfl, rfl⟩
theorem und80 : Statement .und80 := fun _ => ⟨_, rfl, rfl, rfl, rfl⟩
theorem und82 : Statement .und82 := fun _ => ⟨_, rfl, rfl, rfl, rfl⟩
theorem und83 : Statement .und83 := fun _ => ⟨_, rfl, rfl, rfl, rfl⟩
theorem und87 : Statement .und87 := fun _ => ⟨_, rfl, rfl, rfl, rfl⟩
theorem und89 : Statement .und89 := fun _ => ⟨_, rfl, rfl, rfl, rfl⟩
theorem und8B : Statement .und8B := fun _ => ⟨_, rfl, rfl, rfl, rfl⟩
theorem und8F : Statement .und8F := fun _ => ⟨_, rfl, rfl, rfl, rfl⟩
theorem und92 : Statement .und92 := fun _ => ⟨_, rfl, rfl, rfl, rfl⟩
theorem und93 : Statement .und93 := fun _ => ⟨_, rfl, rfl, rfl, rfl⟩
theorem und97 : Statement .und97 := fun _ => ⟨_, rfl, rfl, rfl, rfl⟩
theorem und9B : Statement .und9B := fun _ => ⟨_, rfl, rfl, rfl, rfl⟩
theorem und9C : Statement .und9C := fun _ => ⟨_, rfl, rfl, rfl, rfl⟩
theorem und9E : Statement .und9E := fun _ => ⟨_, rfl, rfl, rfl, rfl⟩
theorem und9F : Statement .und9F := fun _ => ⟨_, rfl, rfl, rfl, rfl⟩
theorem undA3 : Statement .undA3 := fun _ => ⟨_, rfl, rfl, rfl, rfl⟩
theorem undA7 : Statement .undA7 := fun _ => ⟨_, rfl, rfl, rfl, rfl⟩
theorem undAB : Statement .undAB := fun _ => ⟨_, rfl, rfl, rfl, rfl⟩
theorem undAF : Statement .undAF := fun _ => ⟨_, rfl, rfl, rfl, rfl⟩
theorem undB2 : Statement .undB2 := fun _ => ⟨_, rfl, rfl, rfl, rfl⟩
theorem undB3 : Statement .undB3 := fun _ => ⟨_, rfl, rfl, rfl, rfl⟩
theorem undB7 : Statement .undB7 := fun _ => ⟨_, rfl, rfl, rfl, rfl⟩
theorem undBB : Statement .undBB := fun _ => ⟨_, rfl, rfl, rfl, rfl⟩
theorem undBF : Statement .undBF := fun _ => ⟨_, rfl, rfl, rfl, rfl⟩
theorem undC2 : Statement .undC2 := fun _ => ⟨_, rfl, rfl, rfl, rfl⟩
theorem undC3 : Statement .undC3 := fun _ => ⟨_, rfl, rfl, rfl, rfl⟩
theorem undC7 : Statement .undC7 := fun _ => ⟨_, rfl, rfl, rfl, rfl⟩
theorem undCB : Statement .undCB := fun _ => ⟨_, rfl, rfl, rfl, rfl⟩
theorem undCF : Statement .undCF := fun _ => ⟨_, rfl, rfl, rfl, rfl⟩
theorem undD2 : Statement .undD2 := fun _ => ⟨_, rfl, rfl, rfl, rfl⟩
theorem undD3 : Statement .undD3 := fun _ => ⟨_, rfl, rfl, rfl, rfl⟩
theorem undD4 : Statement .undD4 := fun _ => ⟨_, rfl, rfl, rfl, rfl⟩
theorem undD7 : Statement .undD7 := fun _ => ⟨_, rfl, rfl, rfl, rfl⟩
theorem undDA : Statement .undDA := fun _ => ⟨_, rfl, rfl, rfl, rfl⟩
theorem undDB : Statement .undDB := fun _ => ⟨_, rfl, rfl, rfl, rfl⟩
theorem undDC : Statement .undDC := fun _ => ⟨_, rfl, rfl, rfl, rfl⟩
theorem undDF : Statement .undDF := fun _ => ⟨_, rfl, rfl, rfl, rfl⟩
theorem undE2 : Statement .undE2 := fun _ => ⟨_, rfl, rfl, rfl, rfl⟩
theorem undE3 : Statement .undE3 := fun _ => ⟨_, rfl, rfl, rfl, rfl⟩
theorem undE7 : Statement .undE7 := fun _ => ⟨_, rfl, rfl, rfl, rfl⟩
theorem undEB : Statement .undEB := fun _ => ⟨_, rfl, rfl, rfl, rfl⟩
theorem undEF : Statement .undEF := fun _ => ⟨_, rfl, rfl, rfl, rfl⟩
theorem undF2 : Statement .undF2 := fun _ => ⟨_, rfl, rfl, rfl, rfl⟩
theorem undF3 : Statement .undF3 := fun _ => ⟨_, rfl, rfl, rfl, rfl⟩
theorem undF4 : Statement .undF4 := fun _ => ⟨_, rfl, rfl, rfl, rfl⟩
theorem undF7 : Statement .undF7 := fun _ => ⟨_, rfl, rfl, rfl, rfl⟩
theorem undFA : Statement .undFA := fun _ => ⟨_, rfl, rfl, rfl, rfl⟩
theorem undFB : Statement .undFB := fun _ => ⟨_, rfl, rfl, rfl, rfl⟩
theorem undFC : Statement .undFC := fun _ => ⟨_, rfl, rfl, rfl, rfl⟩
theorem undFF : Statement .undFF := fun _ => ⟨_, rfl, rfl, rfl, rfl⟩

end EncodeDecode

end Sys2Proof.Laws
end

