-- ==== Sys2Proof/Tests/Slice0.lean ====
section
/-! SUPPORT. The model's own tests. Their expected results come from the spec: the opcode table for the decodings, the
vectors of 95_test_vectors.md (V…, I…, S…, and its sections 5.1 to 5.9) for the rest; each theorem or its section names
its source. At the end, a witness for the hypotheses of every obligation that has any. -/

namespace Sys2Proof.Machine.Tests

open Sys2Proof Sys2Proof.Machine

/-! ## Well-formedness: one ill-formed term for each check, refused and without an encoding -/

/-- Neither well-formed nor encodable. -/
def illFormed (i : Instr) : Bool := !i.wf && (encode i).isEmpty

theorem test_illFormed_accumulator_forms :
    ([.lda (.mem (.zpy 0x10#8)), .adc (.mem (.zpy 0x10#8)), .sbc (.mem (.zpy 0x10#8)), .and (.mem (.zpy 0x10#8)),
      .ora (.mem (.zpy 0x10#8)), .eor (.mem (.zpy 0x10#8)), .cmp (.mem (.zpy 0x10#8))] : List Instr).all illFormed =
      true := by
  decide

theorem test_illFormed_index_forms :
    ([.ldx (.mem (.zpx 0x10#8)), .ldy (.mem (.zpy 0x10#8)), .cpx (.mem (.zpx 0x10#8)), .cpy (.mem (.abx 0x1000#16))] :
        List Instr).all illFormed = true := by
  decide

theorem test_illFormed_store_forms :
    ([.sta (.zpy 0x10#8), .stx (.zpx 0x10#8), .sty (.zpy 0x10#8), .bit (.abx 0x1000#16)] : List Instr).all illFormed =
      true := by
  decide

theorem test_illFormed_modify_forms :
    ([.asl (.mem (.aby 0x1000#16)), .lsr (.mem (.izx 0x10#8)), .rol (.mem (.izy 0x10#8)), .ror (.mem (.zpy 0x10#8)),
      .inc (.izx 0x10#8), .dec (.aby 0x1000#16)] : List Instr).all illFormed = true := by
  decide

/-! ## Decoding: every cell of the opcode map (spec/opcode_table.json), the opcode written out bit by bit, the operand
bytes 0x5A, 0xC3 -/

/-- A cell of the opcode map: the opcode, the length of the instruction, the instruction. -/
structure Cell where
  op : Byte
  length : Nat
  instr : Instr

/-- The bytes decode to the cell's instruction, which takes exactly its length; and the host's word does. -/
def Cell.decodes (c : Cell) : Bool :=
  decide (decode [c.op, 0x5A#8, 0xC3#8] = .ok (c.instr, [0x5A#8, 0xC3#8].drop (c.length - 1))) &&
    decide (encode c.instr = [c.op, 0x5A#8, 0xC3#8].take c.length) &&
      decide (decodeTableWord (8 * c.length) (c.op.toNat + 0xC35A00) = some c.instr)

/-- Every cell of a row decodes. -/
def allDecode (row : List Cell) : Bool := row.length == 16 && row.all Cell.decodes

theorem test_decode_row_0 :
  allDecode
    [⟨0b00000000#8, 1, .brk⟩, ⟨0b00000001#8, 2, .ora (.mem (.izx 0x5A#8))⟩, ⟨0b00000010#8, 1, .und02⟩,
      ⟨0b00000011#8, 1, .und03⟩, ⟨0b00000100#8, 1, .und04⟩, ⟨0b00000101#8, 2, .ora (.mem (.zp0 0x5A#8))⟩,
      ⟨0b00000110#8, 2, .asl (.mem (.zp0 0x5A#8))⟩, ⟨0b00000111#8, 1, .und07⟩, ⟨0b00001000#8, 1, .php⟩,
      ⟨0b00001001#8, 2, .ora (.imm 0x5A#8)⟩, ⟨0b00001010#8, 1, .asl .acc⟩, ⟨0b00001011#8, 1, .und0B⟩,
      ⟨0b00001100#8, 1, .und0C⟩, ⟨0b00001101#8, 3, .ora (.mem (.abs 0xC35A#16))⟩,
      ⟨0b00001110#8, 3, .asl (.mem (.abs 0xC35A#16))⟩, ⟨0b00001111#8, 1, .und0F⟩] = true := by
  decide +kernel

theorem test_decode_row_1 :
  allDecode
    [⟨0b00010000#8, 2, .bpl 0x5A#8⟩, ⟨0b00010001#8, 2, .ora (.mem (.izy 0x5A#8))⟩, ⟨0b00010010#8, 1, .und12⟩,
      ⟨0b00010011#8, 1, .und13⟩, ⟨0b00010100#8, 1, .und14⟩, ⟨0b00010101#8, 2, .ora (.mem (.zpx 0x5A#8))⟩,
      ⟨0b00010110#8, 2, .asl (.mem (.zpx 0x5A#8))⟩, ⟨0b00010111#8, 1, .und17⟩, ⟨0b00011000#8, 1, .clc⟩,
      ⟨0b00011001#8, 3, .ora (.mem (.aby 0xC35A#16))⟩, ⟨0b00011010#8, 1, .und1A⟩, ⟨0b00011011#8, 1, .und1B⟩,
      ⟨0b00011100#8, 1, .und1C⟩, ⟨0b00011101#8, 3, .ora (.mem (.abx 0xC35A#16))⟩,
      ⟨0b00011110#8, 3, .asl (.mem (.abx 0xC35A#16))⟩, ⟨0b00011111#8, 1, .und1F⟩] = true := by
  decide +kernel

theorem test_decode_row_2 :
  allDecode
    [⟨0b00100000#8, 3, .jsr 0xC35A#16⟩, ⟨0b00100001#8, 2, .and (.mem (.izx 0x5A#8))⟩, ⟨0b00100010#8, 1, .und22⟩,
      ⟨0b00100011#8, 1, .und23⟩, ⟨0b00100100#8, 2, .bit (.zp0 0x5A#8)⟩,
      ⟨0b00100101#8, 2, .and (.mem (.zp0 0x5A#8))⟩, ⟨0b00100110#8, 2, .rol (.mem (.zp0 0x5A#8))⟩,
      ⟨0b00100111#8, 1, .und27⟩, ⟨0b00101000#8, 1, .plp⟩, ⟨0b00101001#8, 2, .and (.imm 0x5A#8)⟩,
      ⟨0b00101010#8, 1, .rol .acc⟩, ⟨0b00101011#8, 1, .und2B⟩, ⟨0b00101100#8, 3, .bit (.abs 0xC35A#16)⟩,
      ⟨0b00101101#8, 3, .and (.mem (.abs 0xC35A#16))⟩, ⟨0b00101110#8, 3, .rol (.mem (.abs 0xC35A#16))⟩,
      ⟨0b00101111#8, 1, .und2F⟩] = true := by
  decide +kernel

theorem test_decode_row_3 :
  allDecode
    [⟨0b00110000#8, 2, .bmi 0x5A#8⟩, ⟨0b00110001#8, 2, .and (.mem (.izy 0x5A#8))⟩, ⟨0b00110010#8, 1, .und32⟩,
      ⟨0b00110011#8, 1, .und33⟩, ⟨0b00110100#8, 1, .und34⟩, ⟨0b00110101#8, 2, .and (.mem (.zpx 0x5A#8))⟩,
      ⟨0b00110110#8, 2, .rol (.mem (.zpx 0x5A#8))⟩, ⟨0b00110111#8, 1, .und37⟩, ⟨0b00111000#8, 1, .sec⟩,
      ⟨0b00111001#8, 3, .and (.mem (.aby 0xC35A#16))⟩, ⟨0b00111010#8, 1, .und3A⟩, ⟨0b00111011#8, 1, .und3B⟩,
      ⟨0b00111100#8, 1, .und3C⟩, ⟨0b00111101#8, 3, .and (.mem (.abx 0xC35A#16))⟩,
      ⟨0b00111110#8, 3, .rol (.mem (.abx 0xC35A#16))⟩, ⟨0b00111111#8, 1, .und3F⟩] = true := by
  decide +kernel

theorem test_decode_row_4 :
  allDecode
    [⟨0b01000000#8, 1, .rti⟩, ⟨0b01000001#8, 2, .eor (.mem (.izx 0x5A#8))⟩, ⟨0b01000010#8, 1, .und42⟩,
      ⟨0b01000011#8, 1, .und43⟩, ⟨0b01000100#8, 1, .und44⟩, ⟨0b01000101#8, 2, .eor (.mem (.zp0 0x5A#8))⟩,
      ⟨0b01000110#8, 2, .lsr (.mem (.zp0 0x5A#8))⟩, ⟨0b01000111#8, 1, .und47⟩, ⟨0b01001000#8, 1, .pha⟩,
      ⟨0b01001001#8, 2, .eor (.imm 0x5A#8)⟩, ⟨0b01001010#8, 1, .lsr .acc⟩, ⟨0b01001011#8, 1, .und4B⟩,
      ⟨0b01001100#8, 3, .jmp (.abs 0xC35A#16)⟩, ⟨0b01001101#8, 3, .eor (.mem (.abs 0xC35A#16))⟩,
      ⟨0b01001110#8, 3, .lsr (.mem (.abs 0xC35A#16))⟩, ⟨0b01001111#8, 1, .und4F⟩] = true := by
  decide +kernel

theorem test_decode_row_5 :
  allDecode
    [⟨0b01010000#8, 2, .bvc 0x5A#8⟩, ⟨0b01010001#8, 2, .eor (.mem (.izy 0x5A#8))⟩, ⟨0b01010010#8, 1, .und52⟩,
      ⟨0b01010011#8, 1, .und53⟩, ⟨0b01010100#8, 1, .und54⟩, ⟨0b01010101#8, 2, .eor (.mem (.zpx 0x5A#8))⟩,
      ⟨0b01010110#8, 2, .lsr (.mem (.zpx 0x5A#8))⟩, ⟨0b01010111#8, 1, .und57⟩, ⟨0b01011000#8, 1, .cli⟩,
      ⟨0b01011001#8, 3, .eor (.mem (.aby 0xC35A#16))⟩, ⟨0b01011010#8, 1, .und5A⟩, ⟨0b01011011#8, 1, .und5B⟩,
      ⟨0b01011100#8, 1, .und5C⟩, ⟨0b01011101#8, 3, .eor (.mem (.abx 0xC35A#16))⟩,
      ⟨0b01011110#8, 3, .lsr (.mem (.abx 0xC35A#16))⟩, ⟨0b01011111#8, 1, .und5F⟩] = true := by
  decide +kernel

theorem test_decode_row_6 :
  allDecode
    [⟨0b01100000#8, 1, .rts⟩, ⟨0b01100001#8, 2, .adc (.mem (.izx 0x5A#8))⟩, ⟨0b01100010#8, 1, .und62⟩,
      ⟨0b01100011#8, 1, .und63⟩, ⟨0b01100100#8, 1, .und64⟩, ⟨0b01100101#8, 2, .adc (.mem (.zp0 0x5A#8))⟩,
      ⟨0b01100110#8, 2, .ror (.mem (.zp0 0x5A#8))⟩, ⟨0b01100111#8, 1, .und67⟩, ⟨0b01101000#8, 1, .pla⟩,
      ⟨0b01101001#8, 2, .adc (.imm 0x5A#8)⟩, ⟨0b01101010#8, 1, .ror .acc⟩, ⟨0b01101011#8, 1, .und6B⟩,
      ⟨0b01101100#8, 3, .jmp (.ind 0xC35A#16)⟩, ⟨0b01101101#8, 3, .adc (.mem (.abs 0xC35A#16))⟩,
      ⟨0b01101110#8, 3, .ror (.mem (.abs 0xC35A#16))⟩, ⟨0b01101111#8, 1, .und6F⟩] = true := by
  decide +kernel

theorem test_decode_row_7 :
  allDecode
    [⟨0b01110000#8, 2, .bvs 0x5A#8⟩, ⟨0b01110001#8, 2, .adc (.mem (.izy 0x5A#8))⟩, ⟨0b01110010#8, 1, .und72⟩,
      ⟨0b01110011#8, 1, .und73⟩, ⟨0b01110100#8, 1, .und74⟩, ⟨0b01110101#8, 2, .adc (.mem (.zpx 0x5A#8))⟩,
      ⟨0b01110110#8, 2, .ror (.mem (.zpx 0x5A#8))⟩, ⟨0b01110111#8, 1, .und77⟩, ⟨0b01111000#8, 1, .sei⟩,
      ⟨0b01111001#8, 3, .adc (.mem (.aby 0xC35A#16))⟩, ⟨0b01111010#8, 1, .und7A⟩, ⟨0b01111011#8, 1, .und7B⟩,
      ⟨0b01111100#8, 1, .und7C⟩, ⟨0b01111101#8, 3, .adc (.mem (.abx 0xC35A#16))⟩,
      ⟨0b01111110#8, 3, .ror (.mem (.abx 0xC35A#16))⟩, ⟨0b01111111#8, 1, .und7F⟩] = true := by
  decide +kernel

theorem test_decode_row_8 :
  allDecode
    [⟨0b10000000#8, 1, .und80⟩, ⟨0b10000001#8, 2, .sta (.izx 0x5A#8)⟩, ⟨0b10000010#8, 1, .und82⟩,
      ⟨0b10000011#8, 1, .und83⟩, ⟨0b10000100#8, 2, .sty (.zp0 0x5A#8)⟩, ⟨0b10000101#8, 2, .sta (.zp0 0x5A#8)⟩,
      ⟨0b10000110#8, 2, .stx (.zp0 0x5A#8)⟩, ⟨0b10000111#8, 1, .und87⟩, ⟨0b10001000#8, 1, .dey⟩,
      ⟨0b10001001#8, 1, .und89⟩, ⟨0b10001010#8, 1, .txa⟩, ⟨0b10001011#8, 1, .und8B⟩,
      ⟨0b10001100#8, 3, .sty (.abs 0xC35A#16)⟩, ⟨0b10001101#8, 3, .sta (.abs 0xC35A#16)⟩,
      ⟨0b10001110#8, 3, .stx (.abs 0xC35A#16)⟩, ⟨0b10001111#8, 1, .und8F⟩] = true := by
  decide +kernel

theorem test_decode_row_9 :
  allDecode
    [⟨0b10010000#8, 2, .bcc 0x5A#8⟩, ⟨0b10010001#8, 2, .sta (.izy 0x5A#8)⟩, ⟨0b10010010#8, 1, .und92⟩,
      ⟨0b10010011#8, 1, .und93⟩, ⟨0b10010100#8, 2, .sty (.zpx 0x5A#8)⟩, ⟨0b10010101#8, 2, .sta (.zpx 0x5A#8)⟩,
      ⟨0b10010110#8, 2, .stx (.zpy 0x5A#8)⟩, ⟨0b10010111#8, 1, .und97⟩, ⟨0b10011000#8, 1, .tya⟩,
      ⟨0b10011001#8, 3, .sta (.aby 0xC35A#16)⟩, ⟨0b10011010#8, 1, .txs⟩, ⟨0b10011011#8, 1, .und9B⟩,
      ⟨0b10011100#8, 1, .und9C⟩, ⟨0b10011101#8, 3, .sta (.abx 0xC35A#16)⟩, ⟨0b10011110#8, 1, .und9E⟩,
      ⟨0b10011111#8, 1, .und9F⟩] = true := by
  decide +kernel

theorem test_decode_row_A :
  allDecode
    [⟨0b10100000#8, 2, .ldy (.imm 0x5A#8)⟩, ⟨0b10100001#8, 2, .lda (.mem (.izx 0x5A#8))⟩,
      ⟨0b10100010#8, 2, .ldx (.imm 0x5A#8)⟩, ⟨0b10100011#8, 1, .undA3⟩,
      ⟨0b10100100#8, 2, .ldy (.mem (.zp0 0x5A#8))⟩, ⟨0b10100101#8, 2, .lda (.mem (.zp0 0x5A#8))⟩,
      ⟨0b10100110#8, 2, .ldx (.mem (.zp0 0x5A#8))⟩, ⟨0b10100111#8, 1, .undA7⟩, ⟨0b10101000#8, 1, .tay⟩,
      ⟨0b10101001#8, 2, .lda (.imm 0x5A#8)⟩, ⟨0b10101010#8, 1, .tax⟩, ⟨0b10101011#8, 1, .undAB⟩,
      ⟨0b10101100#8, 3, .ldy (.mem (.abs 0xC35A#16))⟩, ⟨0b10101101#8, 3, .lda (.mem (.abs 0xC35A#16))⟩,
      ⟨0b10101110#8, 3, .ldx (.mem (.abs 0xC35A#16))⟩, ⟨0b10101111#8, 1, .undAF⟩] = true := by
  decide +kernel

theorem test_decode_row_B :
  allDecode
    [⟨0b10110000#8, 2, .bcs 0x5A#8⟩, ⟨0b10110001#8, 2, .lda (.mem (.izy 0x5A#8))⟩, ⟨0b10110010#8, 1, .undB2⟩,
      ⟨0b10110011#8, 1, .undB3⟩, ⟨0b10110100#8, 2, .ldy (.mem (.zpx 0x5A#8))⟩,
      ⟨0b10110101#8, 2, .lda (.mem (.zpx 0x5A#8))⟩, ⟨0b10110110#8, 2, .ldx (.mem (.zpy 0x5A#8))⟩,
      ⟨0b10110111#8, 1, .undB7⟩, ⟨0b10111000#8, 1, .clv⟩, ⟨0b10111001#8, 3, .lda (.mem (.aby 0xC35A#16))⟩,
      ⟨0b10111010#8, 1, .tsx⟩, ⟨0b10111011#8, 1, .undBB⟩, ⟨0b10111100#8, 3, .ldy (.mem (.abx 0xC35A#16))⟩,
      ⟨0b10111101#8, 3, .lda (.mem (.abx 0xC35A#16))⟩, ⟨0b10111110#8, 3, .ldx (.mem (.aby 0xC35A#16))⟩,
      ⟨0b10111111#8, 1, .undBF⟩] = true := by
  decide +kernel

theorem test_decode_row_C :
  allDecode
    [⟨0b11000000#8, 2, .cpy (.imm 0x5A#8)⟩, ⟨0b11000001#8, 2, .cmp (.mem (.izx 0x5A#8))⟩, ⟨0b11000010#8, 1, .undC2⟩,
      ⟨0b11000011#8, 1, .undC3⟩, ⟨0b11000100#8, 2, .cpy (.mem (.zp0 0x5A#8))⟩,
      ⟨0b11000101#8, 2, .cmp (.mem (.zp0 0x5A#8))⟩, ⟨0b11000110#8, 2, .dec (.zp0 0x5A#8)⟩,
      ⟨0b11000111#8, 1, .undC7⟩, ⟨0b11001000#8, 1, .iny⟩, ⟨0b11001001#8, 2, .cmp (.imm 0x5A#8)⟩,
      ⟨0b11001010#8, 1, .dex⟩, ⟨0b11001011#8, 1, .undCB⟩, ⟨0b11001100#8, 3, .cpy (.mem (.abs 0xC35A#16))⟩,
      ⟨0b11001101#8, 3, .cmp (.mem (.abs 0xC35A#16))⟩, ⟨0b11001110#8, 3, .dec (.abs 0xC35A#16)⟩,
      ⟨0b11001111#8, 1, .undCF⟩] = true := by
  decide +kernel

theorem test_decode_row_D :
  allDecode
    [⟨0b11010000#8, 2, .bne 0x5A#8⟩, ⟨0b11010001#8, 2, .cmp (.mem (.izy 0x5A#8))⟩, ⟨0b11010010#8, 1, .undD2⟩,
      ⟨0b11010011#8, 1, .undD3⟩, ⟨0b11010100#8, 1, .undD4⟩, ⟨0b11010101#8, 2, .cmp (.mem (.zpx 0x5A#8))⟩,
      ⟨0b11010110#8, 2, .dec (.zpx 0x5A#8)⟩, ⟨0b11010111#8, 1, .undD7⟩, ⟨0b11011000#8, 1, .cld⟩,
      ⟨0b11011001#8, 3, .cmp (.mem (.aby 0xC35A#16))⟩, ⟨0b11011010#8, 1, .undDA⟩, ⟨0b11011011#8, 1, .undDB⟩,
      ⟨0b11011100#8, 1, .undDC⟩, ⟨0b11011101#8, 3, .cmp (.mem (.abx 0xC35A#16))⟩,
      ⟨0b11011110#8, 3, .dec (.abx 0xC35A#16)⟩, ⟨0b11011111#8, 1, .undDF⟩] = true := by
  decide +kernel

theorem test_decode_row_E :
  allDecode
    [⟨0b11100000#8, 2, .cpx (.imm 0x5A#8)⟩, ⟨0b11100001#8, 2, .sbc (.mem (.izx 0x5A#8))⟩, ⟨0b11100010#8, 1, .undE2⟩,
      ⟨0b11100011#8, 1, .undE3⟩, ⟨0b11100100#8, 2, .cpx (.mem (.zp0 0x5A#8))⟩,
      ⟨0b11100101#8, 2, .sbc (.mem (.zp0 0x5A#8))⟩, ⟨0b11100110#8, 2, .inc (.zp0 0x5A#8)⟩,
      ⟨0b11100111#8, 1, .undE7⟩, ⟨0b11101000#8, 1, .inx⟩, ⟨0b11101001#8, 2, .sbc (.imm 0x5A#8)⟩,
      ⟨0b11101010#8, 1, .nop⟩, ⟨0b11101011#8, 1, .undEB⟩, ⟨0b11101100#8, 3, .cpx (.mem (.abs 0xC35A#16))⟩,
      ⟨0b11101101#8, 3, .sbc (.mem (.abs 0xC35A#16))⟩, ⟨0b11101110#8, 3, .inc (.abs 0xC35A#16)⟩,
      ⟨0b11101111#8, 1, .undEF⟩] = true := by
  decide +kernel

theorem test_decode_row_F :
  allDecode
    [⟨0b11110000#8, 2, .beq 0x5A#8⟩, ⟨0b11110001#8, 2, .sbc (.mem (.izy 0x5A#8))⟩, ⟨0b11110010#8, 1, .undF2⟩,
      ⟨0b11110011#8, 1, .undF3⟩, ⟨0b11110100#8, 1, .undF4⟩, ⟨0b11110101#8, 2, .sbc (.mem (.zpx 0x5A#8))⟩,
      ⟨0b11110110#8, 2, .inc (.zpx 0x5A#8)⟩, ⟨0b11110111#8, 1, .undF7⟩, ⟨0b11111000#8, 1, .sed⟩,
      ⟨0b11111001#8, 3, .sbc (.mem (.aby 0xC35A#16))⟩, ⟨0b11111010#8, 1, .undFA⟩, ⟨0b11111011#8, 1, .undFB⟩,
      ⟨0b11111100#8, 1, .undFC⟩, ⟨0b11111101#8, 3, .sbc (.mem (.abx 0xC35A#16))⟩,
      ⟨0b11111110#8, 3, .inc (.abx 0xC35A#16)⟩, ⟨0b11111111#8, 1, .undFF⟩] = true := by
  decide +kernel

/-- No bytes are no instruction, and neither is an instruction cut short. -/
theorem test_decode_short :
    (decode [0xAD#8, 0x5A#8]).toOption = none ∧ (decode [0xA9#8]).toOption = none ∧ (decode []).toOption = none := by
  decide

/-! ## One instruction each (95_test_vectors.md, section 2; the name ends in the vector's id) -/

/-- The CPU registers of a vector: A, X, Y, SP, P, PC. -/
structure Regs where
  a : Byte
  x : Byte
  y : Byte
  sp : Byte
  p : Byte
  pc : Word
deriving DecidableEq, Repr

/-- A machine about to fetch, with these registers, CPU RAM and PRG memory of a two-bank cartridge. -/
def small (r : Regs) (ram prg : Memory) : State :=
  { State.reset with
    cpu := ⟨r.a, r.x, r.y, r.sp, r.pc, r.p, 0, 0⟩
    bus := { State.reset.bus with ram := ram }
    cart := some ⟨prg, [], 2, 1, 0x00#8, .horizontal, false, []⟩ }

/-- The registers of a machine. -/
def regsOf (s : State) : Regs := ⟨s.cpu.a, s.cpu.x, s.cpu.y, s.cpu.sp, s.cpu.p, s.cpu.pc⟩

/-- One `CPU.clock()`: the registers, the number of such calls that the instruction takes, and these bytes of CPU RAM. -/
def runOne (s : State) (cells : List Nat) : Option (Regs × Nat × List Byte) :=
  match cpuClock s with
  | .next t => some (regsOf t, t.cpu.cycles + 1, cells.map (Memory.read t.bus.ram))
  | .fault _ | .refused _ => none

theorem test_lda_V4 :
    runOne (small ⟨0x00#8, 0x20#8, 0x00#8, 0xFD#8, 0x24#8, 0x0200#16⟩
        [(0x10, 0x42#8), (0x110, 0x99#8), (0x200, 0xB5#8), (0x201, 0xF0#8)] []) [] =
      some (⟨0x42#8, 0x20#8, 0x00#8, 0xFD#8, 0x24#8, 0x0202#16⟩, 4, []) := by
  decide +kernel

theorem test_lda_V11 :
    runOne (small ⟨0x00#8, 0x00#8, 0x01#8, 0xFD#8, 0x24#8, 0x0200#16⟩
        [(0x0, 0x12#8), (0xFF, 0xFF#8), (0x200, 0xB1#8), (0x201, 0xFF#8), (0x300, 0x11#8)] []) [] =
      some (⟨0x11#8, 0x00#8, 0x01#8, 0xFD#8, 0x24#8, 0x0202#16⟩, 6, []) := by
  decide +kernel

theorem test_ldx_V13 :
    runOne (small ⟨0x00#8, 0x00#8, 0x20#8, 0xFD#8, 0x24#8, 0x0200#16⟩
        [(0x200, 0xB6#8), (0x201, 0xF0#8)] []) [] =
      some (⟨0x00#8, 0x00#8, 0x20#8, 0xFD#8, 0x26#8, 0x0202#16⟩, 4, []) := by
  decide +kernel

theorem test_ldx_V14 :
    runOne (small ⟨0x00#8, 0x00#8, 0x80#8, 0xFD#8, 0x24#8, 0x0200#16⟩
        [(0x200, 0xBE#8), (0x201, 0x80#8), (0x202, 0x03#8), (0x400, 0x01#8)] []) [] =
      some (⟨0x00#8, 0x01#8, 0x80#8, 0xFD#8, 0x24#8, 0x0203#16⟩, 5, []) := by
  decide +kernel

theorem test_ldy_V16 :
    runOne (small ⟨0x00#8, 0xFF#8, 0x00#8, 0xFD#8, 0x24#8, 0x0200#16⟩
        [(0xFF, 0xC0#8), (0x200, 0xB4#8)] []) [] =
      some (⟨0x00#8, 0xFF#8, 0xC0#8, 0xFD#8, 0xA4#8, 0x0202#16⟩, 4, []) := by
  decide +kernel

theorem test_ldy_V17 :
    runOne (small ⟨0x00#8, 0xFF#8, 0x00#8, 0xFD#8, 0x24#8, 0x0200#16⟩
        [(0x200, 0xBC#8), (0x202, 0x03#8)] []) [] =
      some (⟨0x00#8, 0xFF#8, 0x00#8, 0xFD#8, 0x26#8, 0x0203#16⟩, 4, []) := by
  decide +kernel

theorem test_sta_V21 :
    runOne (small ⟨0x5A#8, 0x01#8, 0x00#8, 0xFD#8, 0x24#8, 0x0200#16⟩
        [(0x200, 0x9D#8), (0x201, 0xFF#8), (0x202, 0x02#8)] []) [0x300] =
      some (⟨0x5A#8, 0x01#8, 0x00#8, 0xFD#8, 0x24#8, 0x0203#16⟩, 5, [0x5A#8]) := by
  decide +kernel

theorem test_sta_V24 :
    runOne (small ⟨0x77#8, 0x00#8, 0xFF#8, 0xFD#8, 0x24#8, 0x0200#16⟩
        [(0x20, 0x01#8), (0x21, 0x03#8), (0x200, 0x91#8), (0x201, 0x20#8)] []) [0x400] =
      some (⟨0x77#8, 0x00#8, 0xFF#8, 0xFD#8, 0x24#8, 0x0202#16⟩, 6, [0x77#8]) := by
  decide +kernel

theorem test_stx_V26 :
    runOne (small ⟨0x00#8, 0x12#8, 0x05#8, 0xFD#8, 0x24#8, 0x0200#16⟩
        [(0x200, 0x96#8), (0x201, 0x10#8)] []) [0x15] =
      some (⟨0x00#8, 0x12#8, 0x05#8, 0xFD#8, 0x24#8, 0x0202#16⟩, 4, [0x12#8]) := by
  decide +kernel

theorem test_stx_V27 :
    runOne (small ⟨0x00#8, 0x12#8, 0x00#8, 0xFD#8, 0x24#8, 0x0200#16⟩
        [(0x200, 0x8E#8), (0x202, 0x03#8)] []) [0x300] =
      some (⟨0x00#8, 0x12#8, 0x00#8, 0xFD#8, 0x24#8, 0x0203#16⟩, 4, [0x12#8]) := by
  decide +kernel

theorem test_sty_V29 :
    runOne (small ⟨0x00#8, 0x05#8, 0x34#8, 0xFD#8, 0x24#8, 0x0200#16⟩
        [(0x200, 0x94#8), (0x201, 0x10#8)] []) [0x15] =
      some (⟨0x00#8, 0x05#8, 0x34#8, 0xFD#8, 0x24#8, 0x0202#16⟩, 4, [0x34#8]) := by
  decide +kernel

theorem test_sty_V30 :
    runOne (small ⟨0x00#8, 0x00#8, 0x34#8, 0xFD#8, 0x24#8, 0x0200#16⟩
        [(0x200, 0x8C#8), (0x202, 0x03#8)] []) [0x300] =
      some (⟨0x00#8, 0x00#8, 0x34#8, 0xFD#8, 0x24#8, 0x0203#16⟩, 4, [0x34#8]) := by
  decide +kernel

theorem test_tax_V31 :
    runOne (small ⟨0x00#8, 0x55#8, 0x00#8, 0xFD#8, 0x24#8, 0x0200#16⟩
        [(0x200, 0xAA#8)] []) [] =
      some (⟨0x00#8, 0x00#8, 0x00#8, 0xFD#8, 0x26#8, 0x0201#16⟩, 2, []) := by
  decide +kernel

theorem test_tay_V32 :
    runOne (small ⟨0x80#8, 0x00#8, 0x00#8, 0xFD#8, 0x24#8, 0x0200#16⟩
        [(0x200, 0xA8#8)] []) [] =
      some (⟨0x80#8, 0x00#8, 0x80#8, 0xFD#8, 0xA4#8, 0x0201#16⟩, 2, []) := by
  decide +kernel

theorem test_txa_V33 :
    runOne (small ⟨0xFF#8, 0x7F#8, 0x00#8, 0xFD#8, 0xA4#8, 0x0200#16⟩
        [(0x200, 0x8A#8)] []) [] =
      some (⟨0x7F#8, 0x7F#8, 0x00#8, 0xFD#8, 0x24#8, 0x0201#16⟩, 2, []) := by
  decide +kernel

theorem test_tya_V34 :
    runOne (small ⟨0x01#8, 0x00#8, 0x00#8, 0xFD#8, 0x24#8, 0x0200#16⟩
        [(0x200, 0x98#8)] []) [] =
      some (⟨0x00#8, 0x00#8, 0x00#8, 0xFD#8, 0x26#8, 0x0201#16⟩, 2, []) := by
  decide +kernel

theorem test_tsx_V35 :
    runOne (small ⟨0x00#8, 0x00#8, 0x00#8, 0xFD#8, 0x24#8, 0x0200#16⟩
        [(0x200, 0xBA#8)] []) [] =
      some (⟨0x00#8, 0xFD#8, 0x00#8, 0xFD#8, 0xA4#8, 0x0201#16⟩, 2, []) := by
  decide +kernel

theorem test_txs_V36 :
    runOne (small ⟨0x00#8, 0x00#8, 0x00#8, 0xFD#8, 0x24#8, 0x0200#16⟩
        [(0x200, 0x9A#8)] []) [] =
      some (⟨0x00#8, 0x00#8, 0x00#8, 0x00#8, 0x24#8, 0x0201#16⟩, 2, []) := by
  decide +kernel

theorem test_adc_V46 :
    runOne (small ⟨0x7F#8, 0x00#8, 0x00#8, 0xFD#8, 0x25#8, 0x0200#16⟩
        [(0x200, 0x69#8)] []) [] =
      some (⟨0x80#8, 0x00#8, 0x00#8, 0xFD#8, 0xE4#8, 0x0202#16⟩, 2, []) := by
  decide +kernel

theorem test_adc_V53 :
    runOne (small ⟨0x10#8, 0x00#8, 0x01#8, 0xFD#8, 0x24#8, 0x0200#16⟩
        [(0x10, 0xFF#8), (0x11, 0x02#8), (0x200, 0x71#8), (0x201, 0x10#8), (0x300, 0x70#8)] []) [] =
      some (⟨0x80#8, 0x00#8, 0x01#8, 0xFD#8, 0xE4#8, 0x0202#16⟩, 6, []) := by
  decide +kernel

theorem test_sbc_V64 :
    runOne (small ⟨0x80#8, 0x00#8, 0x00#8, 0xFD#8, 0x24#8, 0x0200#16⟩
        [(0x200, 0xE9#8)] []) [] =
      some (⟨0x7F#8, 0x00#8, 0x00#8, 0xFD#8, 0x65#8, 0x0202#16⟩, 2, []) := by
  decide +kernel

theorem test_sbc_V69 :
    runOne (small ⟨0x00#8, 0x00#8, 0xFF#8, 0xFD#8, 0x25#8, 0x0200#16⟩
        [(0x200, 0xF9#8), (0x201, 0x01#8), (0x202, 0x03#8), (0x400, 0x01#8)] []) [] =
      some (⟨0xFF#8, 0x00#8, 0xFF#8, 0xFD#8, 0xA4#8, 0x0203#16⟩, 5, []) := by
  decide +kernel

theorem test_and_V71 :
    runOne (small ⟨0x90#8, 0x00#8, 0x00#8, 0xFD#8, 0x24#8, 0x0200#16⟩
        [(0x200, 0x29#8), (0x201, 0xF0#8)] []) [] =
      some (⟨0x90#8, 0x00#8, 0x00#8, 0xFD#8, 0xA4#8, 0x0202#16⟩, 2, []) := by
  decide +kernel

theorem test_and_V73 :
    runOne (small ⟨0xFF#8, 0x80#8, 0x00#8, 0xFD#8, 0x24#8, 0x0200#16⟩
        [(0x200, 0x3D#8), (0x201, 0x80#8), (0x202, 0x02#8), (0x300, 0x81#8)] []) [] =
      some (⟨0x81#8, 0x80#8, 0x00#8, 0xFD#8, 0xA4#8, 0x0203#16⟩, 5, []) := by
  decide +kernel

theorem test_ora_V75 :
    runOne (small ⟨0x01#8, 0x00#8, 0x00#8, 0xFD#8, 0x24#8, 0x0200#16⟩
        [(0x200, 0x09#8), (0x201, 0x80#8)] []) [] =
      some (⟨0x81#8, 0x00#8, 0x00#8, 0xFD#8, 0xA4#8, 0x0202#16⟩, 2, []) := by
  decide +kernel

theorem test_ora_V76 :
    runOne (small ⟨0x0F#8, 0x00#8, 0x00#8, 0xFD#8, 0x24#8, 0x0200#16⟩
        [(0x11, 0x03#8), (0x200, 0x01#8), (0x201, 0x10#8), (0x300, 0xF0#8)] []) [] =
      some (⟨0xFF#8, 0x00#8, 0x00#8, 0xFD#8, 0xA4#8, 0x0202#16⟩, 6, []) := by
  decide +kernel

theorem test_eor_V78 :
    runOne (small ⟨0x7F#8, 0x00#8, 0x00#8, 0xFD#8, 0x24#8, 0x0200#16⟩
        [(0x200, 0x49#8), (0x201, 0xFF#8)] []) [] =
      some (⟨0x80#8, 0x00#8, 0x00#8, 0xFD#8, 0xA4#8, 0x0202#16⟩, 2, []) := by
  decide +kernel

theorem test_eor_V79 :
    runOne (small ⟨0xAA#8, 0x00#8, 0x00#8, 0xFD#8, 0x24#8, 0x0200#16⟩
        [(0x11, 0x03#8), (0x200, 0x51#8), (0x201, 0x10#8), (0x300, 0x55#8)] []) [] =
      some (⟨0xFF#8, 0x00#8, 0x00#8, 0xFD#8, 0xA4#8, 0x0202#16⟩, 5, []) := by
  decide +kernel

theorem test_bit_V80 :
    runOne (small ⟨0x01#8, 0x00#8, 0x00#8, 0xFD#8, 0x24#8, 0x0200#16⟩
        [(0x10, 0xC0#8), (0x200, 0x24#8), (0x201, 0x10#8)] []) [] =
      some (⟨0x01#8, 0x00#8, 0x00#8, 0xFD#8, 0xE6#8, 0x0202#16⟩, 3, []) := by
  decide +kernel

theorem test_bit_V82 :
    runOne (small ⟨0x40#8, 0x00#8, 0x00#8, 0xFD#8, 0x24#8, 0x0200#16⟩
        [(0x200, 0x2C#8), (0x202, 0x03#8), (0x300, 0x40#8)] []) [] =
      some (⟨0x40#8, 0x00#8, 0x00#8, 0xFD#8, 0x64#8, 0x0203#16⟩, 4, []) := by
  decide +kernel

theorem test_cmp_V86 :
    runOne (small ⟨0x80#8, 0x00#8, 0x00#8, 0xFD#8, 0x24#8, 0x0200#16⟩
        [(0x200, 0xC9#8), (0x201, 0x7F#8)] []) [] =
      some (⟨0x80#8, 0x00#8, 0x00#8, 0xFD#8, 0x25#8, 0x0202#16⟩, 2, []) := by
  decide +kernel

theorem test_cmp_V89 :
    runOne (small ⟨0x10#8, 0x00#8, 0x01#8, 0xFD#8, 0x24#8, 0x0200#16⟩
        [(0x200, 0xD9#8), (0x201, 0xFF#8), (0x202, 0x02#8), (0x300, 0x10#8)] []) [] =
      some (⟨0x10#8, 0x00#8, 0x01#8, 0xFD#8, 0x27#8, 0x0203#16⟩, 5, []) := by
  decide +kernel

theorem test_cpx_V91 :
    runOne (small ⟨0x00#8, 0x00#8, 0x00#8, 0xFD#8, 0x24#8, 0x0200#16⟩
        [(0x10, 0x01#8), (0x200, 0xE4#8), (0x201, 0x10#8)] []) [] =
      some (⟨0x00#8, 0x00#8, 0x00#8, 0xFD#8, 0xA4#8, 0x0202#16⟩, 3, []) := by
  decide +kernel

theorem test_cpx_V92 :
    runOne (small ⟨0x00#8, 0xFF#8, 0x00#8, 0xFD#8, 0x24#8, 0x0200#16⟩
        [(0x200, 0xEC#8), (0x202, 0x03#8), (0x300, 0x7F#8)] []) [] =
      some (⟨0x00#8, 0xFF#8, 0x00#8, 0xFD#8, 0xA5#8, 0x0203#16⟩, 4, []) := by
  decide +kernel

theorem test_cpy_V94 :
    runOne (small ⟨0x00#8, 0x00#8, 0x7F#8, 0xFD#8, 0x24#8, 0x0200#16⟩
        [(0x10, 0x80#8), (0x200, 0xC4#8), (0x201, 0x10#8)] []) [] =
      some (⟨0x00#8, 0x00#8, 0x7F#8, 0xFD#8, 0xA4#8, 0x0202#16⟩, 3, []) := by
  decide +kernel

theorem test_cpy_V95 :
    runOne (small ⟨0x00#8, 0x00#8, 0x80#8, 0xFD#8, 0x24#8, 0x0200#16⟩
        [(0x200, 0xCC#8), (0x202, 0x03#8), (0x300, 0x7F#8)] []) [] =
      some (⟨0x00#8, 0x00#8, 0x80#8, 0xFD#8, 0x25#8, 0x0203#16⟩, 4, []) := by
  decide +kernel

theorem test_asl_V98 :
    runOne (small ⟨0x81#8, 0x00#8, 0x00#8, 0xFD#8, 0x25#8, 0x0200#16⟩
        [(0x200, 0x0A#8)] []) [] =
      some (⟨0x02#8, 0x00#8, 0x00#8, 0xFD#8, 0x25#8, 0x0201#16⟩, 2, []) := by
  decide +kernel

theorem test_asl_V100 :
    runOne (small ⟨0x00#8, 0x01#8, 0x00#8, 0xFD#8, 0x24#8, 0x0200#16⟩
        [(0x200, 0x1E#8), (0x201, 0xFF#8), (0x202, 0x02#8), (0x300, 0x01#8)] []) [0x300] =
      some (⟨0x00#8, 0x01#8, 0x00#8, 0xFD#8, 0x24#8, 0x0203#16⟩, 7, [0x02#8]) := by
  decide +kernel

theorem test_lsr_V102 :
    runOne (small ⟨0xFF#8, 0x00#8, 0x00#8, 0xFD#8, 0xA4#8, 0x0200#16⟩
        [(0x200, 0x4A#8)] []) [] =
      some (⟨0x7F#8, 0x00#8, 0x00#8, 0xFD#8, 0x25#8, 0x0201#16⟩, 2, []) := by
  decide +kernel

theorem test_lsr_V103 :
    runOne (small ⟨0x00#8, 0x00#8, 0x00#8, 0xFD#8, 0x24#8, 0x0200#16⟩
        [(0x200, 0x4E#8), (0x202, 0x03#8), (0x300, 0x80#8)] []) [0x300] =
      some (⟨0x00#8, 0x00#8, 0x00#8, 0xFD#8, 0x24#8, 0x0203#16⟩, 6, [0x40#8]) := by
  decide +kernel

theorem test_rol_V105 :
    runOne (small ⟨0x40#8, 0x00#8, 0x00#8, 0xFD#8, 0x25#8, 0x0200#16⟩
        [(0x200, 0x2A#8)] []) [] =
      some (⟨0x81#8, 0x00#8, 0x00#8, 0xFD#8, 0xA4#8, 0x0201#16⟩, 2, []) := by
  decide +kernel

theorem test_rol_V106 :
    runOne (small ⟨0x00#8, 0x00#8, 0x00#8, 0xFD#8, 0x25#8, 0x0200#16⟩
        [(0x10, 0xFF#8), (0x200, 0x26#8), (0x201, 0x10#8)] []) [0x10] =
      some (⟨0x00#8, 0x00#8, 0x00#8, 0xFD#8, 0xA5#8, 0x0202#16⟩, 5, [0xFF#8]) := by
  decide +kernel

theorem test_ror_V108 :
    runOne (small ⟨0x00#8, 0x00#8, 0x00#8, 0xFD#8, 0x25#8, 0x0200#16⟩
        [(0x200, 0x6A#8)] []) [] =
      some (⟨0x80#8, 0x00#8, 0x00#8, 0xFD#8, 0xA4#8, 0x0201#16⟩, 2, []) := by
  decide +kernel

theorem test_ror_V109 :
    runOne (small ⟨0x00#8, 0xF0#8, 0x00#8, 0xFD#8, 0x25#8, 0x0200#16⟩
        [(0x0, 0x02#8), (0x200, 0x76#8), (0x201, 0x10#8)] []) [0x0] =
      some (⟨0x00#8, 0xF0#8, 0x00#8, 0xFD#8, 0xA4#8, 0x0202#16⟩, 6, [0x81#8]) := by
  decide +kernel

theorem test_inc_V111 :
    runOne (small ⟨0x00#8, 0x00#8, 0x00#8, 0xFD#8, 0x24#8, 0x0200#16⟩
        [(0x10, 0xFF#8), (0x200, 0xE6#8), (0x201, 0x10#8)] []) [0x10] =
      some (⟨0x00#8, 0x00#8, 0x00#8, 0xFD#8, 0x26#8, 0x0202#16⟩, 5, [0x00#8]) := by
  decide +kernel

theorem test_inc_V113 :
    runOne (small ⟨0x00#8, 0x01#8, 0x00#8, 0xFD#8, 0x24#8, 0x0200#16⟩
        [(0x200, 0xFE#8), (0x201, 0xFF#8), (0x202, 0x02#8), (0x300, 0x0F#8)] []) [0x300] =
      some (⟨0x00#8, 0x01#8, 0x00#8, 0xFD#8, 0x24#8, 0x0203#16⟩, 7, [0x10#8]) := by
  decide +kernel

theorem test_dec_V114 :
    runOne (small ⟨0x00#8, 0x00#8, 0x00#8, 0xFD#8, 0x24#8, 0x0200#16⟩
        [(0x200, 0xC6#8), (0x201, 0x10#8)] []) [0x10] =
      some (⟨0x00#8, 0x00#8, 0x00#8, 0xFD#8, 0xA4#8, 0x0202#16⟩, 5, [0xFF#8]) := by
  decide +kernel

theorem test_dec_V116 :
    runOne (small ⟨0x00#8, 0x00#8, 0x00#8, 0xFD#8, 0x24#8, 0x0200#16⟩
        [(0x200, 0xCE#8), (0x202, 0x03#8), (0x300, 0x80#8)] []) [0x300] =
      some (⟨0x00#8, 0x00#8, 0x00#8, 0xFD#8, 0x24#8, 0x0203#16⟩, 6, [0x7F#8]) := by
  decide +kernel

theorem test_inx_V117 :
    runOne (small ⟨0x00#8, 0xFF#8, 0x00#8, 0xFD#8, 0x24#8, 0x0200#16⟩
        [(0x200, 0xE8#8)] []) [] =
      some (⟨0x00#8, 0x00#8, 0x00#8, 0xFD#8, 0x26#8, 0x0201#16⟩, 2, []) := by
  decide +kernel

theorem test_iny_V118 :
    runOne (small ⟨0x00#8, 0x00#8, 0x7F#8, 0xFD#8, 0x24#8, 0x0200#16⟩
        [(0x200, 0xC8#8)] []) [] =
      some (⟨0x00#8, 0x00#8, 0x80#8, 0xFD#8, 0xA4#8, 0x0201#16⟩, 2, []) := by
  decide +kernel

theorem test_dex_V119 :
    runOne (small ⟨0x00#8, 0x00#8, 0x00#8, 0xFD#8, 0x24#8, 0x0200#16⟩
        [(0x200, 0xCA#8)] []) [] =
      some (⟨0x00#8, 0xFF#8, 0x00#8, 0xFD#8, 0xA4#8, 0x0201#16⟩, 2, []) := by
  decide +kernel

theorem test_dey_V120 :
    runOne (small ⟨0x00#8, 0x00#8, 0x01#8, 0xFD#8, 0x24#8, 0x0200#16⟩
        [(0x200, 0x88#8)] []) [] =
      some (⟨0x00#8, 0x00#8, 0x00#8, 0xFD#8, 0x26#8, 0x0201#16⟩, 2, []) := by
  decide +kernel

theorem test_jmp_V122 :
    runOne (small ⟨0x00#8, 0x00#8, 0x00#8, 0xFD#8, 0x24#8, 0x0200#16⟩
        [(0x200, 0x6C#8), (0x201, 0x20#8), (0x202, 0x03#8), (0x320, 0x78#8), (0x321, 0x56#8)] []) [] =
      some (⟨0x00#8, 0x00#8, 0x00#8, 0xFD#8, 0x24#8, 0x5678#16⟩, 5, []) := by
  decide +kernel

theorem test_jmp_V123 :
    runOne (small ⟨0x00#8, 0x00#8, 0x00#8, 0xFD#8, 0x24#8, 0x0200#16⟩
        [(0x200, 0x6C#8), (0x201, 0xFF#8), (0x202, 0x02#8), (0x2FF, 0x34#8), (0x300, 0x12#8)] []) [] =
      some (⟨0x00#8, 0x00#8, 0x00#8, 0xFD#8, 0x24#8, 0x6C34#16⟩, 5, []) := by
  decide +kernel

theorem test_jsr_V125 :
    runOne (small ⟨0x00#8, 0x00#8, 0x00#8, 0xFD#8, 0x24#8, 0x02FE#16⟩
        [(0x2FE, 0x20#8), (0x300, 0x03#8)] []) [0x1FD, 0x1FC] =
      some (⟨0x00#8, 0x00#8, 0x00#8, 0xFB#8, 0x24#8, 0x0300#16⟩, 6, [0x03#8, 0x00#8]) := by
  decide +kernel

theorem test_jsr_V126 :
    runOne (small ⟨0x00#8, 0x00#8, 0x00#8, 0x00#8, 0x24#8, 0x0200#16⟩
        [(0x200, 0x20#8), (0x202, 0x03#8)] []) [0x100, 0x1FF] =
      some (⟨0x00#8, 0x00#8, 0x00#8, 0xFE#8, 0x24#8, 0x0300#16⟩, 6, [0x02#8, 0x02#8]) := by
  decide +kernel

theorem test_rts_V127 :
    runOne (small ⟨0x00#8, 0x00#8, 0x00#8, 0xFB#8, 0x24#8, 0x0200#16⟩
        [(0x1FC, 0x02#8), (0x1FD, 0x02#8), (0x200, 0x60#8)] []) [] =
      some (⟨0x00#8, 0x00#8, 0x00#8, 0xFD#8, 0x24#8, 0x0203#16⟩, 6, []) := by
  decide +kernel

theorem test_rts_V128 :
    runOne (small ⟨0x00#8, 0x00#8, 0x00#8, 0xFE#8, 0x24#8, 0x0200#16⟩
        [(0x100, 0xFF#8), (0x1FF, 0xFF#8), (0x200, 0x60#8)] []) [] =
      some (⟨0x00#8, 0x00#8, 0x00#8, 0x00#8, 0x24#8, 0x0000#16⟩, 6, []) := by
  decide +kernel

theorem test_bcc_V129 :
    runOne (small ⟨0x00#8, 0x00#8, 0x00#8, 0xFD#8, 0x24#8, 0x0200#16⟩
        [(0x200, 0x90#8), (0x201, 0x10#8)] []) [] =
      some (⟨0x00#8, 0x00#8, 0x00#8, 0xFD#8, 0x24#8, 0x0212#16⟩, 3, []) := by
  decide +kernel

theorem test_bcc_V130 :
    runOne (small ⟨0x00#8, 0x00#8, 0x00#8, 0xFD#8, 0x25#8, 0x0200#16⟩
        [(0x200, 0x90#8), (0x201, 0x10#8)] []) [] =
      some (⟨0x00#8, 0x00#8, 0x00#8, 0xFD#8, 0x25#8, 0x0202#16⟩, 2, []) := by
  decide +kernel

theorem test_bcs_V132 :
    runOne (small ⟨0x00#8, 0x00#8, 0x00#8, 0xFD#8, 0x25#8, 0x02F0#16⟩
        [(0x2F0, 0xB0#8), (0x2F1, 0x7F#8)] []) [] =
      some (⟨0x00#8, 0x00#8, 0x00#8, 0xFD#8, 0x25#8, 0x0371#16⟩, 4, []) := by
  decide +kernel

theorem test_beq_V133 :
    runOne (small ⟨0x00#8, 0x00#8, 0x00#8, 0xFD#8, 0x26#8, 0x0200#16⟩
        [(0x200, 0xF0#8), (0x201, 0xFE#8)] []) [] =
      some (⟨0x00#8, 0x00#8, 0x00#8, 0xFD#8, 0x26#8, 0x0200#16⟩, 3, []) := by
  decide +kernel

theorem test_bne_V135 :
    runOne (small ⟨0x00#8, 0x00#8, 0x00#8, 0xFD#8, 0x24#8, 0x0200#16⟩
        [(0x200, 0xD0#8), (0x201, 0x80#8)] []) [] =
      some (⟨0x00#8, 0x00#8, 0x00#8, 0xFD#8, 0x24#8, 0x0182#16⟩, 4, []) := by
  decide +kernel

theorem test_bne_V136 :
    runOne (small ⟨0x00#8, 0x00#8, 0x00#8, 0xFD#8, 0x24#8, 0x02FE#16⟩
        [(0x2FE, 0xD0#8), (0x2FF, 0xFD#8)] []) [] =
      some (⟨0x00#8, 0x00#8, 0x00#8, 0xFD#8, 0x24#8, 0x02FD#16⟩, 4, []) := by
  decide +kernel

theorem test_bmi_V138 :
    runOne (small ⟨0x00#8, 0x00#8, 0x00#8, 0xFD#8, 0xA4#8, 0x0200#16⟩
        [(0x200, 0x30#8), (0x201, 0x02#8)] []) [] =
      some (⟨0x00#8, 0x00#8, 0x00#8, 0xFD#8, 0xA4#8, 0x0204#16⟩, 3, []) := by
  decide +kernel

theorem test_bmi_V139 :
    runOne (small ⟨0x00#8, 0x00#8, 0x00#8, 0xFD#8, 0x24#8, 0x0200#16⟩
        [(0x200, 0x30#8), (0x201, 0x02#8)] []) [] =
      some (⟨0x00#8, 0x00#8, 0x00#8, 0xFD#8, 0x24#8, 0x0202#16⟩, 2, []) := by
  decide +kernel

theorem test_bpl_V140 :
    runOne (small ⟨0x00#8, 0x00#8, 0x00#8, 0xFD#8, 0x24#8, 0x0200#16⟩
        [(0x200, 0x10#8), (0x201, 0x02#8)] []) [] =
      some (⟨0x00#8, 0x00#8, 0x00#8, 0xFD#8, 0x24#8, 0x0204#16⟩, 3, []) := by
  decide +kernel

theorem test_bpl_V141 :
    runOne (small ⟨0x00#8, 0x00#8, 0x00#8, 0xFD#8, 0xA4#8, 0x0200#16⟩
        [(0x200, 0x10#8), (0x201, 0x02#8)] []) [] =
      some (⟨0x00#8, 0x00#8, 0x00#8, 0xFD#8, 0xA4#8, 0x0202#16⟩, 2, []) := by
  decide +kernel

theorem test_bvc_V142 :
    runOne (small ⟨0x00#8, 0x00#8, 0x00#8, 0xFD#8, 0x24#8, 0x0200#16⟩
        [(0x200, 0x50#8), (0x201, 0x02#8)] []) [] =
      some (⟨0x00#8, 0x00#8, 0x00#8, 0xFD#8, 0x24#8, 0x0204#16⟩, 3, []) := by
  decide +kernel

theorem test_bvc_V143 :
    runOne (small ⟨0x00#8, 0x00#8, 0x00#8, 0xFD#8, 0x64#8, 0x0200#16⟩
        [(0x200, 0x50#8), (0x201, 0x02#8)] []) [] =
      some (⟨0x00#8, 0x00#8, 0x00#8, 0xFD#8, 0x64#8, 0x0202#16⟩, 2, []) := by
  decide +kernel

theorem test_bvs_V144 :
    runOne (small ⟨0x00#8, 0x00#8, 0x00#8, 0xFD#8, 0x64#8, 0x0200#16⟩
        [(0x200, 0x70#8), (0x201, 0x02#8)] []) [] =
      some (⟨0x00#8, 0x00#8, 0x00#8, 0xFD#8, 0x64#8, 0x0204#16⟩, 3, []) := by
  decide +kernel

theorem test_bvs_V145 :
    runOne (small ⟨0x00#8, 0x00#8, 0x00#8, 0xFD#8, 0x64#8, 0xFFFE#16⟩
        [] [(0x7FFE, 0x70#8), (0x7FFF, 0xFB#8)]) [] =
      some (⟨0x00#8, 0x00#8, 0x00#8, 0xFD#8, 0x64#8, 0xFFFB#16⟩, 4, []) := by
  decide +kernel

theorem test_pha_V146 :
    runOne (small ⟨0x80#8, 0x00#8, 0x00#8, 0xFD#8, 0x24#8, 0x0200#16⟩
        [(0x200, 0x48#8)] []) [0x1FD] =
      some (⟨0x80#8, 0x00#8, 0x00#8, 0xFC#8, 0x24#8, 0x0201#16⟩, 3, [0x80#8]) := by
  decide +kernel

theorem test_pha_V147 :
    runOne (small ⟨0x01#8, 0x00#8, 0x00#8, 0x00#8, 0x24#8, 0x0200#16⟩
        [(0x200, 0x48#8)] []) [0x100] =
      some (⟨0x01#8, 0x00#8, 0x00#8, 0xFF#8, 0x24#8, 0x0201#16⟩, 3, [0x01#8]) := by
  decide +kernel

theorem test_pla_V148 :
    runOne (small ⟨0x00#8, 0x00#8, 0x00#8, 0xFC#8, 0x24#8, 0x0200#16⟩
        [(0x200, 0x68#8)] []) [] =
      some (⟨0x00#8, 0x00#8, 0x00#8, 0xFD#8, 0x26#8, 0x0201#16⟩, 4, []) := by
  decide +kernel

theorem test_pla_V149 :
    runOne (small ⟨0x00#8, 0x00#8, 0x00#8, 0xFF#8, 0x24#8, 0x0200#16⟩
        [(0x100, 0x80#8), (0x200, 0x68#8)] []) [] =
      some (⟨0x80#8, 0x00#8, 0x00#8, 0x00#8, 0xA4#8, 0x0201#16⟩, 4, []) := by
  decide +kernel

theorem test_php_V150 :
    runOne (small ⟨0x00#8, 0x00#8, 0x00#8, 0xFD#8, 0x24#8, 0x0200#16⟩
        [(0x200, 0x08#8)] []) [0x1FD] =
      some (⟨0x00#8, 0x00#8, 0x00#8, 0xFC#8, 0x24#8, 0x0201#16⟩, 3, [0x34#8]) := by
  decide +kernel

theorem test_php_V151 :
    runOne (small ⟨0x00#8, 0x00#8, 0x00#8, 0xFD#8, 0xE5#8, 0x0200#16⟩
        [(0x200, 0x08#8)] []) [0x1FD] =
      some (⟨0x00#8, 0x00#8, 0x00#8, 0xFC#8, 0xE5#8, 0x0201#16⟩, 3, [0xF5#8]) := by
  decide +kernel

theorem test_plp_V152 :
    runOne (small ⟨0x00#8, 0x00#8, 0x00#8, 0xFC#8, 0x24#8, 0x0200#16⟩
        [(0x1FD, 0xFF#8), (0x200, 0x28#8)] []) [] =
      some (⟨0x00#8, 0x00#8, 0x00#8, 0xFD#8, 0xEF#8, 0x0201#16⟩, 4, []) := by
  decide +kernel

theorem test_plp_V153 :
    runOne (small ⟨0x00#8, 0x00#8, 0x00#8, 0xFC#8, 0x24#8, 0x0200#16⟩
        [(0x200, 0x28#8)] []) [] =
      some (⟨0x00#8, 0x00#8, 0x00#8, 0xFD#8, 0x20#8, 0x0201#16⟩, 4, []) := by
  decide +kernel

theorem test_clc_V154 :
    runOne (small ⟨0x00#8, 0x00#8, 0x00#8, 0xFD#8, 0x25#8, 0x0200#16⟩
        [(0x200, 0x18#8)] []) [] =
      some (⟨0x00#8, 0x00#8, 0x00#8, 0xFD#8, 0x24#8, 0x0201#16⟩, 2, []) := by
  decide +kernel

theorem test_sec_V155 :
    runOne (small ⟨0x00#8, 0x00#8, 0x00#8, 0xFD#8, 0x24#8, 0x0200#16⟩
        [(0x200, 0x38#8)] []) [] =
      some (⟨0x00#8, 0x00#8, 0x00#8, 0xFD#8, 0x25#8, 0x0201#16⟩, 2, []) := by
  decide +kernel

theorem test_cli_V156 :
    runOne (small ⟨0x00#8, 0x00#8, 0x00#8, 0xFD#8, 0x24#8, 0x0200#16⟩
        [(0x200, 0x58#8)] []) [] =
      some (⟨0x00#8, 0x00#8, 0x00#8, 0xFD#8, 0x20#8, 0x0201#16⟩, 2, []) := by
  decide +kernel

theorem test_sei_V157 :
    runOne (small ⟨0x00#8, 0x00#8, 0x00#8, 0xFD#8, 0x20#8, 0x0200#16⟩
        [(0x200, 0x78#8)] []) [] =
      some (⟨0x00#8, 0x00#8, 0x00#8, 0xFD#8, 0x24#8, 0x0201#16⟩, 2, []) := by
  decide +kernel

theorem test_cld_V158 :
    runOne (small ⟨0x00#8, 0x00#8, 0x00#8, 0xFD#8, 0x2C#8, 0x0200#16⟩
        [(0x200, 0xD8#8)] []) [] =
      some (⟨0x00#8, 0x00#8, 0x00#8, 0xFD#8, 0x24#8, 0x0201#16⟩, 2, []) := by
  decide +kernel

theorem test_sed_V159 :
    runOne (small ⟨0x00#8, 0x00#8, 0x00#8, 0xFD#8, 0x24#8, 0x0200#16⟩
        [(0x200, 0xF8#8)] []) [] =
      some (⟨0x00#8, 0x00#8, 0x00#8, 0xFD#8, 0x2C#8, 0x0201#16⟩, 2, []) := by
  decide +kernel

theorem test_clv_V160 :
    runOne (small ⟨0x00#8, 0x00#8, 0x00#8, 0xFD#8, 0x64#8, 0x0200#16⟩
        [(0x200, 0xB8#8)] []) [] =
      some (⟨0x00#8, 0x00#8, 0x00#8, 0xFD#8, 0x24#8, 0x0201#16⟩, 2, []) := by
  decide +kernel

theorem test_nop_V161 :
    runOne (small ⟨0x00#8, 0x00#8, 0x00#8, 0xFD#8, 0xE5#8, 0x0200#16⟩
        [(0x200, 0xEA#8)] []) [] =
      some (⟨0x00#8, 0x00#8, 0x00#8, 0xFD#8, 0xE5#8, 0x0201#16⟩, 2, []) := by
  decide +kernel

theorem test_brk_V162 :
    runOne (small ⟨0x00#8, 0x00#8, 0x00#8, 0xFD#8, 0x21#8, 0x0200#16⟩
        [] [(0x7FFF, 0x90#8)]) [0x1FD, 0x1FC, 0x1FB] =
      some (⟨0x00#8, 0x00#8, 0x00#8, 0xFA#8, 0x25#8, 0x9000#16⟩, 7, [0x02#8, 0x02#8, 0x31#8]) := by
  decide +kernel

theorem test_brk_V163 :
    runOne (small ⟨0x00#8, 0x00#8, 0x00#8, 0x01#8, 0x24#8, 0x0200#16⟩
        [] [(0x7FFE, 0x34#8), (0x7FFF, 0x12#8)]) [0x101, 0x100, 0x1FF] =
      some (⟨0x00#8, 0x00#8, 0x00#8, 0xFE#8, 0x24#8, 0x1234#16⟩, 7, [0x02#8, 0x02#8, 0x34#8]) := by
  decide +kernel

theorem test_rti_V164 :
    runOne (small ⟨0x00#8, 0x00#8, 0x00#8, 0xFA#8, 0x24#8, 0x0200#16⟩
        [(0x1FB, 0xF1#8), (0x1FC, 0x02#8), (0x1FD, 0x03#8), (0x200, 0x40#8)] []) [] =
      some (⟨0x00#8, 0x00#8, 0x00#8, 0xFD#8, 0xE1#8, 0x0302#16⟩, 6, []) := by
  decide +kernel

theorem test_rti_V165 :
    runOne (small ⟨0x00#8, 0x00#8, 0x00#8, 0xFD#8, 0x24#8, 0x0200#16⟩
        [(0x100, 0x12#8), (0x1FF, 0x34#8), (0x200, 0x40#8)] []) [] =
      some (⟨0x00#8, 0x00#8, 0x00#8, 0x00#8, 0x20#8, 0x1234#16⟩, 6, []) := by
  decide +kernel

/-! ## The undocumented opcodes (spec/opcode_table.json, R250, R251; V166 to V177): every one, placed by the host -/

/-- One step from reset with this opcode placed runs it: one byte, these cycles, no register changed. -/
def idles (op n : Nat) : Bool :=
  match step (State.reset.withFetchWord 8 op) with
  | .next t => decide (regsOf t = ⟨0x00#8, 0x00#8, 0x00#8, 0xFD#8, 0x24#8, 0x0001#16⟩) && t.cpu.cycles + 1 == n
  | .fault _ | .refused _ => false

/-- Every opcode of a list does. -/
def allIdle (ops : List (Nat × Nat)) : Bool := ops.all fun e => idles e.1 e.2

theorem test_undocumented_0 :
  allIdle
    [(0x02, 2), (0x03, 8), (0x04, 3), (0x07, 5), (0x0B, 2), (0x0C, 4), (0x0F, 6), (0x12, 2), (0x13, 8), (0x14, 4),
      (0x17, 6), (0x1A, 2), (0x1B, 7), (0x1C, 4), (0x1F, 7), (0x22, 2), (0x23, 8), (0x27, 5), (0x2B, 2), (0x2F, 6),
      (0x32, 2), (0x33, 8), (0x34, 4), (0x37, 6), (0x3A, 2), (0x3B, 7), (0x3C, 4), (0x3F, 7)] = true := by
  decide +kernel

theorem test_undocumented_1 :
  allIdle
    [(0x42, 2), (0x43, 8), (0x44, 3), (0x47, 5), (0x4B, 2), (0x4F, 6), (0x52, 2), (0x53, 8), (0x54, 4), (0x57, 6),
      (0x5A, 2), (0x5B, 7), (0x5C, 4), (0x5F, 7), (0x62, 2), (0x63, 8), (0x64, 3), (0x67, 5), (0x6B, 2), (0x6F, 6),
      (0x72, 2), (0x73, 8), (0x74, 4), (0x77, 6), (0x7A, 2), (0x7B, 7), (0x7C, 4), (0x7F, 7)] = true := by
  decide +kernel

theorem test_undocumented_2 :
  allIdle
    [(0x80, 2), (0x82, 2), (0x83, 6), (0x87, 3), (0x89, 2), (0x8B, 2), (0x8F, 4), (0x92, 2), (0x93, 6), (0x97, 4),
      (0x9B, 5), (0x9C, 5), (0x9E, 5), (0x9F, 5), (0xA3, 6), (0xA7, 3), (0xAB, 2), (0xAF, 4), (0xB2, 2), (0xB3, 5),
      (0xB7, 4), (0xBB, 4), (0xBF, 4)] = true := by
  decide +kernel

theorem test_undocumented_3 :
  allIdle
    [(0xC2, 2), (0xC3, 8), (0xC7, 5), (0xCB, 2), (0xCF, 6), (0xD2, 2), (0xD3, 8), (0xD4, 4), (0xD7, 6), (0xDA, 2),
      (0xDB, 7), (0xDC, 4), (0xDF, 7), (0xE2, 2), (0xE3, 8), (0xE7, 5), (0xEB, 2), (0xEF, 6), (0xF2, 2), (0xF3, 8),
      (0xF4, 4), (0xF7, 6), (0xFA, 2), (0xFB, 7), (0xFC, 4), (0xFF, 7)] = true := by
  decide +kernel

/-! ## Reset and interrupts (95_test_vectors.md, S2, I3, I6, I9) -/

/-- `State.reset` is `Bus.reset()` of the machine as constructed, at the values that log entries 1 and 2 name. -/
theorem test_reset_is_busReset :
    State.reset =
      busReset ⟨0x00#8, 0x00#8, 0x00#8⟩
        (powerOn ⟨0x00#8, 0x00#8, 0x00#8, 0x34#8, 0x1234#16, 0xFF#8, [], [], [], []⟩) := by
  rfl

theorem test_reset_S2 :
    let t := busReset ⟨0x11#8, 0x22#8, 0x33#8⟩
      (small ⟨0x00#8, 0x00#8, 0x00#8, 0x34#8, 0xFF#8, 0x1234#16⟩ [] [(0x7FFD, 0xC0#8)])
    regsOf t = ⟨0x11#8, 0x22#8, 0x33#8, 0xFD#8, 0x24#8, 0xC000#16⟩ ∧
      t.cpu.cycles = 8 ∧ t.cpu.clockCount = 0 ∧ t.bus.sysClock = 0 ∧ t.ppu.scanline = 0 ∧ t.ppu.cycle = 0 := by
  decide +kernel

theorem test_nmi_I5 :
    let t := cpuNmi (small ⟨0x00#8, 0x00#8, 0x00#8, 0xFD#8, 0x34#8, 0x8123#16⟩ [] [(0x7FFB, 0x90#8)])
    regsOf t = ⟨0x00#8, 0x00#8, 0x00#8, 0xFA#8, 0x34#8, 0x9000#16⟩ ∧
      t.cpu.cycles = 7 ∧ t.bus.ram = [(0x1FB, 0x24#8), (0x1FC, 0x23#8), (0x1FD, 0x81#8)] := by
  decide +kernel

theorem test_nmi_I6 :
    let t := cpuNmi (small ⟨0x00#8, 0x00#8, 0x00#8, 0x01#8, 0x24#8, 0xC0DE#16⟩ [] [(0x7FFA, 0x34#8), (0x7FFB, 0x12#8)])
    regsOf t = ⟨0x00#8, 0x00#8, 0x00#8, 0xFE#8, 0x24#8, 0x1234#16⟩ ∧
      t.bus.ram = [(0x100, 0xDE#8), (0x101, 0xC0#8), (0x1FF, 0x24#8)] := by
  decide +kernel

theorem test_irq_I10 :
    let t := cpuIrq (small ⟨0x00#8, 0x00#8, 0x00#8, 0xFD#8, 0xE3#8, 0x8123#16⟩ [] [(0x7FFF, 0xA0#8)])
    regsOf t = ⟨0x00#8, 0x00#8, 0x00#8, 0xFA#8, 0xE7#8, 0xA000#16⟩ ∧
      t.bus.ram = [(0x1FB, 0xE3#8), (0x1FC, 0x23#8), (0x1FD, 0x81#8)] := by
  decide +kernel

theorem test_irq_I9 :
    regsOf (cpuIrq (small ⟨0x00#8, 0x00#8, 0x00#8, 0xFD#8, 0x24#8, 0x8123#16⟩ [] [(0x7FFF, 0xA0#8)])) =
      ⟨0x00#8, 0x00#8, 0x00#8, 0xFD#8, 0x24#8, 0x8123#16⟩ := by
  decide +kernel

/-! ## The Bus (95_test_vectors.md, S6 and section 5.8) -/

/-- `n` reads of an address, and the bytes they return. -/
def readBytes (a : Word) : Nat → State → List Byte
  | 0, _ => []
  | n + 1, s => (cpuRead a false s).1 :: readBytes a n (cpuRead a false s).2

theorem test_controller_S6 :
    let s := cpuWrite 0x4016#16 0x01#8 (setController .pad0 0xA5#8 State.reset)
    readBytes 0x4016#16 10 s = [1#8, 0#8, 1#8, 0#8, 0#8, 1#8, 0#8, 1#8, 1#8, 1#8] ∧
      readBytes 0x4017#16 10 s = [0#8, 0#8, 0#8, 0#8, 0#8, 0#8, 0#8, 0#8, 1#8, 1#8] := by
  decide +kernel

theorem test_bus_decode_58 :
    let s := small ⟨0x00#8, 0x00#8, 0x00#8, 0xFD#8, 0x24#8, 0x8000#16⟩ [(0x000, 0x03#8), (0x7FF, 0xFC#8)]
      [(0x0000, 0x4C#8), (0x1234, 0x99#8), (0x4000, 0x77#8)]
    ([0x0000#16, 0x07FF#16, 0x0800#16, 0x1000#16, 0x1FFF#16, 0x2002#16, 0x200A#16, 0x3FFA#16, 0x4000#16, 0x4014#16,
          0x4015#16, 0x4016#16, 0x4017#16, 0x4018#16, 0x401F#16, 0x4020#16, 0x5FFF#16, 0x6000#16, 0x8000#16, 0x9234#16,
          0xC000#16, 0xFFFC#16] : List Word).map (fun a => peek a s) =
      [0x03#8, 0xFC#8, 0x03#8, 0x03#8, 0xFC#8, 0x00#8, 0x00#8, 0x00#8, 0x00#8, 0x00#8, 0x00#8, 0x01#8, 0x01#8, 0x00#8,
        0x00#8, 0x00#8, 0x00#8, 0x00#8, 0x4C#8, 0x99#8, 0x77#8, 0x00#8] := by
  decide +kernel

/-! ## The PPU (95_test_vectors.md, sections 5.1 to 5.5) -/

/-- A series of port writes. -/
def portWrites (writes : List (BitVec 3 × Byte)) (p : Ppu) : Ppu :=
  writes.foldl (fun q e => (q.writePort none e.1 e.2).1) p

/-- `t`, `v`, `fine_x`, `w`. -/
def scrollOf (p : Ppu) : Nat × Nat × Nat × Bool := (p.t.toNat, p.v.toNat, p.fineX.toNat, p.w)

theorem test_ports_51_scroll :
    let p0 := State.reset.ppu
    let p3 := portWrites [(0#3, 0x03#8), (5#3, 0x7D#8), (5#3, 0x5E#8)] p0
    let p5 := portWrites [(6#3, 0xFD#8), (6#3, 0xF0#8)] p3
    let p7 := ((portWrites [(5#3, 0x08#8)] p5).readPort none 2#3 false).2
    scrollOf p3 = (0x6D6F, 0x0000, 5, false) ∧
      scrollOf (portWrites [(6#3, 0xFD#8)] p3) = (0x3D6F, 0x0000, 5, true) ∧
        scrollOf p5 = (0x3DF0, 0x3DF0, 5, false) ∧
          scrollOf p7 = (0x3DE1, 0x3DF0, 0, false) ∧
            scrollOf (portWrites [(6#3, 0x21#8), (6#3, 0x08#8), (0#3, 0x00#8)] p7) = (0x2108, 0x2108, 0, false) := by
  decide +kernel

theorem test_ports_51_data :
    let s0 := small ⟨0x00#8, 0x00#8, 0x00#8, 0xFD#8, 0x24#8, 0x8000#16⟩ [] []
    let s1 := { s0 with
      cart := s0.cart.map fun c => { c with chrBanks := 0 }, ppu := { s0.ppu with v := 0x1234#15, t := 0x1234#15 } }
    let s2 := cpuWrite 0x2007#16 0xCC#8 (cpuWrite 0x2000#16 0x04#8
      (cpuWrite 0x2007#16 0xBB#8 (cpuWrite 0x2007#16 0xAA#8 s1)))
    let s3 := cpuWrite 0x2006#16 0x34#8 (cpuWrite 0x2006#16 0x12#8 s2)
    s2.ppu.v = 0x1256#15 ∧ readBytes 0x2007#16 2 s3 = [0x00#8, 0xAA#8] ∧ (readTimes 0x2007#16 2 s3).ppu.v = 0x1274#15 := by
  decide +kernel

theorem test_mirroring_52 :
    let at' (m : Mirroring) := ([0x2000#14, 0x27FF#14, 0x2800#14, 0x2FFF#14, 0x3400#14, 0x3EFF#14] : List PpuAddr).map
      (nametableCell m)
    at' .horizontal = [.vram 0x000, .vram 0x3FF, .vram 0x400, .vram 0x7FF, .vram 0x000, .vram 0x6FF] ∧
      at' .vertical = [.vram 0x000, .vram 0x7FF, .vram 0x000, .vram 0x7FF, .vram 0x400, .vram 0x6FF] ∧
        at' .singleLo = [.vram 0x000, .vram 0x3FF, .vram 0x000, .vram 0x3FF, .vram 0x000, .vram 0x2FF] ∧
          at' .singleHi = [.vram 0x400, .vram 0x7FF, .vram 0x400, .vram 0x7FF, .vram 0x400, .vram 0x6FF] ∧
            at' .fourScreen = [.vram 0x000, .vram 0x7FF, .ext 0x000, .ext 0x7FF, .vram 0x400, .ext 0x6FF] := by
  decide +kernel

theorem test_palette_52 :
    ([0x3F00#14, 0x3F0F#14, 0x3F10#14, 0x3F11#14, 0x3F14#14, 0x3F18#14, 0x3F1C#14, 0x3F1F#14, 0x3F20#14, 0x3F30#14,
          0x3FFF#14] : List PpuAddr).map palIndex =
        [0x00, 0x0F, 0x00, 0x11, 0x04, 0x08, 0x0C, 0x1F, 0x00, 0x00, 0x1F] ∧
      ppuRead none (ppuWrite none State.reset.ppu 0x3F01#14 0xFF#8).1 0x3F01#14 = 0x3F#8 := by
  decide +kernel

theorem test_scroll_53 :
    ([0x001E#15, 0x001F#15, 0x041F#15, 0x7FFF#15] : List Loopy).map incrementX =
        [0x001F#15, 0x0400#15, 0x0000#15, 0x7BE0#15] ∧
      ([0x6000#15, 0x7000#15, 0x73A0#15, 0x7BA0#15, 0x73E0#15, 0x73C0#15, 0x63FF#15] : List Loopy).map incrementY =
          [0x7000#15, 0x0020#15, 0x0800#15, 0x0000#15, 0x0000#15, 0x03E0#15, 0x73FF#15] ∧
        transferX 0x041F#15 0x7BE0#15 = 0x7FFF#15 ∧ transferY 0x0000#15 0x7FFF#15 = 0x041F#15 := by
  decide +kernel

theorem test_fetch_addresses_53 :
    ([0x0042#15, 0x2C5F#15, 0x7BBF#15, 0x5ABC#15] : List Loopy).map
        (fun v => (nametableFetchAddr v, attributeFetchAddr v, attributeBits v 0xE4#8)) =
      [(0x2042#14, 0x23C0#14, 3#2), (0x2C5F#14, 0x2FC7#14, 3#2), (0x2BBF#14, 0x2BFF#14, 1#2),
        (0x2ABC#14, 0x2BEF#14, 0#2)] := by
  decide +kernel

/-- OAM with these `Y` bytes and these further bytes, every other byte 240. -/
def oamWith (bytes : List (Nat × Byte)) : Memory :=
  bytes.foldl (fun m e => Memory.write m e.1 e.2) (Memory.ofBytes (List.replicate 256 240#8))

/-- The first eight sprites at `Y` = 50, and these bytes; `sprite_count` and overflow after evaluation for scanline 50. -/
def evaluate (bytes : List (Nat × Byte)) : Nat × Bool :=
  let oam := oamWith ((List.range 8).map (fun n => (4 * n, 50#8)) ++ bytes)
  let p := { State.reset.ppu with mask := 0x18#8, oam := oam }.spriteEvaluation 50
  (p.spriteCount, p.spriteOverflow)

theorem test_sprite_overflow_55 :
    evaluate [] = (8, false) ∧ evaluate [(32, 50#8)] = (8, true) ∧ evaluate [(36, 50#8)] = (8, false) ∧
      evaluate [(37, 50#8)] = (8, true) ∧ evaluate [(47, 47#8)] = (8, true) ∧ evaluate [(48, 44#8)] = (8, true) := by
  decide +kernel

/-! ## The cartridge (95_test_vectors.md, section 5.7) -/

/-- A header, no payload. -/
def header (bytes : List Byte) : List Byte := bytes ++ List.replicate (16 - bytes.length) 0x00#8

theorem test_load_errors_57 :
    loadImage none [] [] = .error .missingFile ∧
      loadImage (some ((header [0x4E#8, 0x45#8, 0x53#8, 0x1A#8, 1#8, 1#8]).take 15)) [] [] = .error .truncated ∧
        loadImage (some (header [0x4E#8, 0x45#8, 0x53#8, 0x00#8, 1#8, 1#8])) [] [] = .error .badMagic ∧
          loadImage (some (header [0x4E#8, 0x45#8, 0x53#8, 0x1A#8, 1#8, 1#8, 0x10#8])) [] [] = .error .truncated ∧
            loadImage (some (header [0x4E#8, 0x45#8, 0x53#8, 0x1A#8, 0#8, 0#8])) [] [] = .error .noProgram := by
  decide +kernel

theorem test_header_fields_57 :
    let h (b6 b7 : Byte) := header [0x4E#8, 0x45#8, 0x53#8, 0x1A#8, 1#8, 1#8, b6, b7]
    headerMapperId (h 0x10#8 0x00#8) = 1#8 ∧ headerMapperId (h 0x40#8 0x40#8) = 68#8 ∧
      headerMapperId (h 0x00#8 0x0F#8) = 0#8 ∧ headerMirroring (h 0x09#8 0x00#8) = .fourScreen ∧
        headerMirroring (h 0x01#8 0x00#8) = .vertical ∧ headerPrgOffset (h 0x04#8 0x00#8) = 528 := by
  decide +kernel

/-! ## The APU (95_test_vectors.md, section 5.9) -/

/-- The values of a noise register after each of `n` shifts. -/
def lfsrRun (mode : Bool) : Nat → BitVec 15 → List (BitVec 15)
  | 0, _ => []
  | n + 1, l => lfsrShift mode l :: lfsrRun mode n (lfsrShift mode l)

theorem test_noise_59 :
    (lfsrRun false 16 1#15).drop 13 = [0x0002#15, 0x4001#15, 0x6000#15] ∧
      (lfsrRun true 16 1#15).drop 8 =
        [0x0040#15, 0x4020#15, 0x2010#15, 0x1008#15, 0x0804#15, 0x0402#15, 0x0201#15, 0x4100#15] := by
  decide +kernel

/-- Target and mute of a sweep. -/
def sweepOf (one : Bool) (period : BitVec 11) (negate : Bool) (shift : BitVec 3) : Nat × Bool :=
  let p := { Pulse.zero with timerPeriod := period, swNegate := negate, swShift := shift }
  (p.sweepTarget one, p.sweepMute one)

theorem test_sweep_59 :
    sweepOf true 0x100#11 true 1#3 = (0x07F, false) ∧ sweepOf false 0x100#11 true 1#3 = (0x080, false) ∧
      sweepOf true 0x555#11 false 1#3 = (0x7FF, false) ∧ sweepOf true 0x556#11 false 1#3 = (0x801, true) ∧
        sweepOf false 0x007#11 false 7#3 = (0x007, true) ∧ sweepOf true 0x008#11 true 0#3 = (0x000, false) := by
  decide +kernel

/-- The values of a pulse's `timer_period` after each of `n` half-frames. -/
def sweepRun : Nat → Apu → List Nat
  | 0, _ => []
  | n + 1, a => a.halfFrame.pulse1.timerPeriod.toNat :: sweepRun n a.halfFrame

theorem test_sweep_run_59 :
    let a := ((((Apu.initial.write 0x15 0x01#8).write 0x00 0x3F#8).write 0x01 0x91#8).write 0x02 0x00#8).write 0x03 0x09#8
    sweepRun 10 a = [0x180, 0x180, 0x240, 0x240, 0x360, 0x360, 0x510, 0x510, 0x798, 0x798] := by
  decide +kernel

/-! ## Debug projections (R132; 95_test_vectors.md, S5) -/

theorem test_disassemble :
    let s := small ⟨0x00#8, 0x00#8, 0x00#8, 0xFD#8, 0x24#8, 0x0200#16⟩
      [(0x200, 0xA9#8), (0x201, 0x0A#8), (0x202, 0xD0#8), (0x203, 0xF9#8), (0x204, 0x02#8)] []
    disassemble 0x0200#16 0x0204#16 s = [(0x200, "LDA #$0A"), (0x202, "BNE $01FD"), (0x204, ".byte $02")] := by
  decide +kernel

theorem test_pattern_S5 :
    let s := small ⟨0x00#8, 0x00#8, 0x00#8, 0xFD#8, 0x24#8, 0x0200#16⟩ [] []
    let t := { s with cart := some ⟨[], [(0x14, 0x10#8), (0x1C, 0x16#8)], 2, 1, 0x00#8, .horizontal, false, []⟩ }
    (List.range 8).map (fun col => patternPixel 0#1 0#4 1#4 4#3 (BitVec.ofNat 3 col) t) =
      [0#2, 0#2, 0#2, 3#2, 0#2, 2#2, 2#2, 0#2] := by
  decide +kernel

/-! ## Mixer, envelope and length counter (95_test_vectors.md, section 5.9) -/

theorem test_mixer_59 :
    pulseMix 15 0 = 7191 / 48140 ∧ pulseMix 15 15 = 7191 / 27820 ∧ tndMix 15 0 = 47937 / 194540 ∧
      tndMix 15 15 = 245293629 / 657043535 ∧ pulseMix 0 0 + tndMix 0 0 = 0 := by
  norm_num [pulseMix, tndMix]

theorem test_envelope_59 :
    let a := (((Apu.initial.write 0x15 0x01#8).write 0x00 0x03#8).write 0x02 0xFD#8).write 0x03 0x18#8
    let b := a.quarterFrame.quarterFrame.halfFrame
    a.pulse1.length = 2#8 ∧ a.quarterFrame.pulse1.env = ⟨false, 3#4, 15#4⟩ ∧ b.pulse1.env = ⟨false, 2#4, 15#4⟩ ∧
      b.pulse1.length = 1#8 ∧ a.status = 0x01#8 := by
  decide +kernel

/-! ## Witnesses: states and operands that meet the hypotheses of each obligation -/

/-- A machine with a two-bank cartridge, about to fetch `LDA #$80` at 0x0200. -/
def demo : State :=
  small ⟨0x00#8, 0x00#8, 0x00#8, 0xFD#8, 0x24#8, 0x0200#16⟩ [(0x200, 0xA9#8), (0x201, 0x80#8)]
    [(0x7FFA, 0x20#8), (0x7FFB, 0x80#8)]

/-- `demo` with its PPU standing at a dot. -/
def demoAt (scanline : Int) (cycle : Nat) (ctrl mask : Byte) : State :=
  { demo with ppu := { demo.ppu with scanline := scanline, cycle := cycle, ctrl := ctrl, mask := mask } }

theorem demo_inv : demo.Inv where
  cpu := ⟨by decide, by decide, by decide⟩
  bus := ⟨⟨by decide, by decide⟩, by decide, le_refl _, zero_le_one⟩
  ppu :=
    ⟨⟨by decide, by decide⟩, ⟨by decide, by decide⟩, ⟨by decide, by decide⟩, by decide, by decide, by decide, by decide,
      by decide, rfl, rfl, rfl⟩
  apu := ⟨by decide, by decide, by decide, by decide, by decide, by decide, by decide⟩
  cart := by
    intro c h
    cases h
    exact ⟨⟨by decide, by decide⟩, ⟨by decide, by decide⟩, ⟨by decide, by decide⟩, by decide, by decide⟩
  divider := rfl

theorem demoAt_inv (scanline : Int) (cycle : Nat) (ctrl mask : Byte) (h1 : -1 ≤ scanline) (h2 : scanline ≤ 260)
    (h3 : cycle ≤ 340) : (demoAt scanline cycle ctrl mask).ppu.Inv :=
  { demo_inv.ppu with scanlineGe := h1, scanlineLe := h2, cycleLe := h3 }

theorem demo_atFetch : demo.atFetch := ⟨rfl, rfl, rfl⟩

theorem isMemory_low (a : Word) (h : a.toNat < 0x2000) : IsMemory a := .inl h

theorem isMemory_high (a : Word) (h : 0x4020 ≤ a.toNat) : IsMemory a := .inr h

theorem witness_DecodeOfEncode :
    (Instr.lda (.mem (.izx 0xFF#8))).wf = true ∧ Instr.undFF.wf = true ∧ (Instr.jmp (.ind 0xFFFF#16)).wf = true := by
  decide

theorem witness_EncodeOfDecode :
    decode [0xB1#8, 0xFF#8, 0x01#8] = .ok (.lda (.mem (.izy 0xFF#8)), [0x01#8]) ∧
      decode [0xFF#8] = .ok (.undFF, []) := by
  decide

theorem witness_StepRunsDecodedInstruction :
    demo.atFetch ∧ decode [0xA9#8, 0x80#8] = .ok (.lda (.imm 0x80#8), []) ∧
      ∀ k v, [0xA9#8, 0x80#8][k]? = some v →
        IsMemory (demo.cpu.pc + BitVec.ofNat 16 k) ∧ peek (demo.cpu.pc + BitVec.ofNat 16 k) demo = v := by
  refine ⟨demo_atFetch, by decide, ?_⟩
  intro k v h
  match k with
  | 0 => cases h; exact ⟨isMemory_low _ (by decide), by decide⟩
  | 1 => cases h; exact ⟨isMemory_low _ (by decide), by decide⟩
  | k + 2 => simp at h

theorem witness_FetchReadsTheInstruction :
    demo.atFetch ∧ opcodeLength (memRead demo.cpu.pc demo).1 = 2 ∧
      opcodeLength (memRead (0x0201#16) demo).1 = 1 ∧ opcodeLength 0xAD#8 = 3 := by
  refine ⟨demo_atFetch, ?_⟩
  decide

theorem witness_ClockWithoutFetch :
    (1 % 3 ≠ 0 ∧ 2 % 3 ≠ 0) ∧
      (let s := cpuWrite 0x4014#16 0x02#8 demo;
        s.bus.sysClock % 3 = 0 ∧ s.bus.dma.active = true) ∧
        (State.reset.bus.sysClock % 3 = 0 ∧ State.reset.bus.dma.active = false ∧ 0 < State.reset.cpu.cycles) ∧
          demo.ppu.nmiOut = false := by
  decide

theorem witness_ThreeClocksOneCpuCycle : demo.Inv ∧ demo.bus.dma.active = false := ⟨demo_inv, rfl⟩

/-- The same with the DMA engine at work, and on each of the two other dots of a CPU cycle. -/
theorem witness_ThreeClocksOneCpuCycle_dma :
    let s := { demo with
      bus := { demo.bus with sysClock := 5, dma := { demo.bus.dma with active := true } }
      apu := { demo.apu with div := 5 } }
    s.Inv ∧ s.bus.dma.active = true :=
  ⟨{ demo_inv with
      bus := { demo_inv.bus with }
      apu := { demo_inv.apu with div := by decide }
      divider := rfl }, rfl⟩

theorem witness_OperandReads :
    IsMemory (resolve (.zp0 0xFF#8) demo).ea ∧ IsMemory (resolve (.abs 0x1FFF#16) demo).ea ∧
      IsMemory (resolve (.abs 0x4020#16) demo).ea ∧ IsMemory (resolve (.abs 0xFFFF#16) demo).ea :=
  ⟨isMemory_low _ (by decide), isMemory_low _ (by decide), isMemory_high _ (by decide), isMemory_high _ (by decide)⟩

/-- The tables that the result statements range over are not empty. -/
theorem witness_rows (i z x a ax ay ix iy b lo hi : Byte) :
    (accumulatorRows i z x a ax ay ix iy b lo hi).length = 8 ∧ (indexCompareRows i z a b lo hi).length = 3 ∧
      (modifyRows z x a ax b lo hi).length = 4 := ⟨rfl, rfl, rfl⟩

theorem witness_NoOperationResults :
    (Instr.nop, 0xEA, 2) ∈ noOperations ∧ (Instr.und02, 0x02, 2) ∈ noOperations ∧
      (Instr.undFF, 0xFF, 7) ∈ noOperations := by
  decide +kernel

theorem witness_InterruptEntries :
    flagI demo.cpu.p = true ∧ flagI (setP 0x20#8 demo).cpu.p = false := by
  decide

theorem witness_NmiDelivery :
    (let s := demoAt 241 1 0x80#8 0x00#8;
      s.ppu.nmiOut = false ∧ s.ppu.scanline = 241 ∧ s.ppu.cycle = 1 ∧ s.ppu.ctrl.getLsbD 7 = true) ∧
      (let s := demoAt 241 1 0x7F#8 0x00#8;
        s.ppu.nmiOut = false ∧ s.ppu.ctrl.getLsbD 7 = false) ∧
        (demoAt 241 2 0x80#8 0x00#8).ppu.cycle ≠ 1 ∧ (demoAt 240 1 0x80#8 0x00#8).ppu.scanline ≠ 241 := by
  decide

theorem witness_ReturnsComeBack : demo.Inv ∧ { demo with cpu := { demo.cpu with sp := 0x01#8 } }.Inv :=
  ⟨demo_inv, { demo_inv with cpu := { demo_inv.cpu with } }⟩

theorem witness_AddressDecode :
    ownerOf 0x1FFF#16 = .ram 0x7FF ∧ ownerOf 0x2000#16 = .ppu 0#3 ∧ ownerOf 0x3FFF#16 = .ppu 7#3 ∧
      ownerOf 0x4000#16 = .apu 0x00 ∧ ownerOf 0x4013#16 = .apu 0x13 ∧ ownerOf 0x4018#16 = .unused ∧
        ownerOf 0x401F#16 = .unused ∧ ownerOf 0x4020#16 = .cartridge ∧ ownerOf 0xFFFF#16 = .cartridge := by
  decide

/-- Every case of the statement of side effects is met, and none outside its range. -/
theorem witness_ReadSideEffects :
    (cpuRead 0x3FFA#16 false { demo with ppu := { demo.ppu with w := true } }).2.ppu.w = false ∧
      (cpuRead 0x1FFA#16 false { demo with ppu := { demo.ppu with w := true } }).2.ppu.w = true ∧
        (cpuRead 0x2007#16 false demo).2.ppu.v = 1#15 ∧ (cpuRead 0x3FFF#16 false demo).2.ppu.v = 1#15 ∧
          (cpuRead 0x4016#16 false { demo with bus := { demo.bus with shift0 := 0x80#8 } }).2.bus.shift0 = 0x01#8 ∧
            (cpuRead 0x4017#16 false { demo with bus := { demo.bus with shift1 := 0x40#8 } }).2.bus.shift1 = 0x81#8 := by
  decide

/-- The byte of a read at both ends of each owner's range. -/
theorem witness_ReadSideEffects_value :
    let s := { demo with
      bus := { demo.bus with ram := [(0x000, 0x11#8), (0x7FF, 0x5A#8)], shift0 := 0x80#8, shift1 := 0x7F#8 }
      ppu := { demo.ppu with dataBuffer := 0x33#8, verticalBlank := true }
      apu := { demo.apu with noise := { demo.apu.noise with length := 1#8 } }
      cart := some ⟨[(0x0000, 0x77#8), (0x7FFF, 0x66#8)], [], 2, 1, 0x00#8, .horizontal, false, []⟩ }
    ([0x0000#16, 0x1FFF#16, 0x2000#16, 0x2002#16, 0x3FFA#16, 0x3FFF#16, 0x4000#16, 0x4014#16, 0x4015#16, 0x4016#16,
          0x4017#16, 0x4018#16, 0x401F#16, 0x4020#16, 0x7FFF#16, 0x8000#16, 0xFFFF#16] : List Word).map
        (fun a => (cpuRead a false s).1) =
      [0x11#8, 0x5A#8, 0x00#8, 0x93#8, 0x93#8, 0x33#8, 0x00#8, 0x00#8, 0x08#8, 0x01#8, 0x00#8, 0x00#8, 0x00#8, 0x00#8,
        0x00#8, 0x77#8, 0x66#8] := by
  decide +kernel

theorem witness_StoreThenLoad :
    demo.Inv ∧ SameCell 0x1FFF#16 0x07FF#16 ∧ (IsMemory 0xFFFF#16 ∧ ¬SameCell 0xFFFF#16 0x07FF#16) ∧
      (IsMemory 0x0000#16 ∧ ¬SameCell 0x0000#16 0x07FF#16) :=
  ⟨demo_inv, ⟨by decide, by decide, by decide⟩, ⟨isMemory_high _ (by decide), fun h => absurd h.1 (by decide)⟩,
    isMemory_low _ (by decide), fun h => absurd h.2.2 (by decide)⟩

theorem witness_StoreThenLoad_ignored :
    (0x4018 ≤ (0x4018#16).toNat ∧ (0x401F#16).toNat ≤ 0x401F) ∧ 0x4020 ≤ (0x4020#16).toNat ∧
      ((0x2002#16).toNat % 8 = 2 ∧ (0x3FFA#16).toNat % 8 = 2 ∧ (0x3FFA#16).toNat < 0x4000) := by
  decide

/-- A store at both ends of each owner's range. -/
theorem witness_StoreThenLoad_owner :
    (cpuWrite 0x1FFF#16 0x5A#8 { demo with bus := { demo.bus with ram := [] } }).bus.ram = [(0x7FF, 0x5A#8)] ∧
      (cpuWrite 0x2000#16 0x80#8 demo).ppu.ctrl = 0x80#8 ∧ (cpuWrite 0x3FF9#16 0x18#8 demo).ppu.mask = 0x18#8 ∧
        (cpuWrite 0x3FFF#16 0x18#8 demo).ppu.v = 1#15 ∧ (cpuWrite 0x4000#16 0x1F#8 demo).apu.pulse1.vol = 15#4 ∧
          (cpuWrite 0x4013#16 0xFF#8 demo).apu = demo.apu ∧ (cpuWrite 0x4015#16 0x08#8 demo).apu.noise.enabled = true ∧
            (cpuWrite 0x4017#16 0x80#8 demo).apu.frameMode = true := by
  decide +kernel

theorem witness_StackBytes :
    Memory.Inv 2048 [] ∧ Memory.Inv 2048 demo.bus.ram ∧
      pushedRam [] 0x01#8 [1#8, 2#8, 3#8] = [(0x100, 2#8), (0x101, 1#8), (0x1FF, 3#8)] :=
  ⟨⟨rfl, rfl⟩, demo_inv.bus.ram, by decide⟩

theorem witness_ControllerReads : (0x01#8).getLsbD 0 = true ∧ (0xFE#8).getLsbD 0 = false := by
  decide

theorem witness_DmaSteps :
    demo.bus.dma.dummy = true ∧ demo.bus.sysClock % 2 = 0 ∧
      (let s := { demo with bus := { demo.bus with sysClock := 3, dma := ⟨true, false, 0x02#8, 0xFF#8, 0x12#8⟩ } };
        s.bus.dma.dummy = false ∧ s.bus.sysClock % 2 = 1 ∧ (dmaStep s).bus.dma.active = false) ∧
        (let s := { demo with bus := { demo.bus with sysClock := 6, dma := ⟨true, false, 0x02#8, 0x01#8, 0x12#8⟩ } };
          s.bus.dma.dummy = false ∧ s.bus.sysClock % 2 = 0 ∧ (dmaStep s).bus.dma.data = 0x80#8) := by
  decide

theorem isMemory_pages :
    ∀ k : Byte, (wordOf k 0x02#8).toNat < 0x2000 ∧ (wordOf k 0x1F#8).toNat < 0x2000 ∧ 0x4020 ≤ (wordOf k 0x41#8).toNat := by
  decide +kernel

theorem witness_DmaCopiesThePage :
    (demo.Inv ∧ demo.bus.sysClock % 2 = 0 ∧ ∀ k : Byte, IsMemory (wordOf k 0x02#8)) ∧
      (∀ k : Byte, IsMemory (wordOf k 0x1F#8)) ∧
        (∀ k : Byte, IsMemory (wordOf k 0x41#8)) ∧
          (let s := { demo with bus := { demo.bus with sysClock := 3 }, apu := { demo.apu with div := 3 } };
            s.Inv ∧ s.bus.sysClock % 2 = 1) :=
  ⟨⟨demo_inv, rfl, fun k => isMemory_low _ (isMemory_pages k).1⟩,
    fun k => isMemory_low _ (isMemory_pages k).2.1,
    fun k => isMemory_high _ (isMemory_pages k).2.2,
    { demo_inv with
      bus := { demo_inv.bus with }
      apu := { demo_inv.apu with div := by decide }
      divider := rfl }, rfl⟩

theorem witness_ScrollAndAddressWrites : demo.ppu.w = false := rfl

theorem witness_PpuBusStoreThenLoad :
    demo.ppu.Inv ∧ (∀ c, demo.cart = some c → c.Inv) ∧ (∀ c, demo.cart = some c → c.chrBanks ≠ 0) ∧
      ((0x1FFF#14).toNat < 0x2000 ∧ 0x2000 ≤ (0x2000#14).toNat ∧ (0x3EFF#14).toNat < 0x3F00 ∧ 0x3F00 ≤ (0x3F00#14).toNat) :=
  ⟨demo_inv.ppu, demo_inv.cart, by intro c h; cases h; decide, by decide⟩

/-- The same with CHR RAM, and pairs of addresses of one cell and of two. -/
theorem witness_PpuBusStoreThenLoad_chrRam :
    let c : Cartridge := ⟨[], [], 1, 0, 0x00#8, .vertical, false, []⟩
    c.Inv ∧ c.chrBanks = 0 ∧ nametableCell c.mirroring 0x2000#14 = nametableCell c.mirroring 0x2800#14 ∧
      nametableCell c.mirroring 0x2000#14 ≠ nametableCell c.mirroring 0x2400#14 ∧
        palIndex 0x3F10#14 = palIndex 0x3F00#14 ∧ palIndex 0x3F11#14 ≠ palIndex 0x3F01#14 :=
  ⟨⟨⟨by decide, by decide⟩, ⟨by decide, by decide⟩, ⟨by decide, by decide⟩, by decide, by decide⟩, rfl, by decide⟩

/-- The reads: pattern tables with no cartridge and with one, a cell of the four-screen memory, a palette cell. -/
theorem witness_PpuBusStoreThenLoad_reads :
    let c : Cartridge := ⟨[], [(0x1FFF, 0x12#8)], 1, 1, 0x00#8, .fourScreen, false, [(0x6FF, 0x34#8)]⟩
    let p := { demo.ppu with palette := [(0x1F, 0xFF#8)] }
    c.Inv ∧ p.Inv ∧ nametableCell c.mirroring 0x3EFF#14 = .ext 0x6FF ∧
      nametableCell (mirroringOf (some c)) 0x2000#14 = .vram 0 ∧ ppuRead (some c) p 0x1FFF#14 = 0x12#8 ∧
        ppuRead none p 0x1FFF#14 = 0x00#8 ∧ ppuRead (some c) p 0x3EFF#14 = 0x34#8 ∧
          ppuRead (some c) p 0x3FFF#14 = 0x3F#8 :=
  ⟨⟨⟨by decide, by decide⟩, ⟨by decide, by decide⟩, ⟨by decide, by decide⟩, by decide, by decide⟩,
    { demo_inv.ppu with palette := ⟨by decide, by decide⟩ }, by decide +kernel⟩

theorem witness_MirroringAndAliases :
    (0x2BFF#14).getLsbD 11 = true ∧ (0x27FF#14).getLsbD 11 = false ∧ (0x27FF#14).getLsbD 10 = true := by
  decide

/-- Dots of the background pipeline at both ends of the scanlines and of each range of the schedule; `v` after them. -/
theorem witness_ScrollArithmetic :
    let p (s : Int) (c : Nat) : Ppu := { (demoAt s c 0x00#8 0x08#8).ppu with t := 0x7FFF#15 }
    ((p (-1) 0).rendering = true ∧ (p 239 340).rendering = true ∧ (-1 ≤ (p (-1) 0).scanline ∧ (p 239 340).scanline ≤ 239)) ∧
      ([8, 255, 256, 257, 279, 280, 304, 305, 320, 328, 336, 340].map fun c => ((p (-1) c).clock demo.cart).v) =
          [0x0001#15, 0x0000#15, 0x1001#15, 0x041F#15, 0x0000#15, 0x7BE0#15, 0x7BE0#15, 0x0000#15, 0x0000#15, 0x0001#15,
            0x0001#15, 0x0000#15] ∧
        ((p 239 280).clock demo.cart).v = 0x0000#15 := by
  decide +kernel

/-- The shifters and latches at both ends of the shift and load ranges and at the fetches. -/
theorem witness_ScrollArithmetic_shifters :
    let p (c : Nat) : Ppu :=
      { (demoAt 0 c 0x00#8 0x08#8).ppu with
        bgPatLo := 0x8001#16, nextTileLsb := 0xAA#8, vram := [(0, 0x07#8), (0x3C0, 0x02#8)], v := 0x0000#15 }
    ([1, 2, 9, 257, 258, 321, 322, 329, 337, 338].map fun c => ((p c).clock demo.cart).bgPatLo) =
        [0x8001#16, 0x0002#16, 0x00AA#16, 0x00AA#16, 0x8001#16, 0x8001#16, 0x0002#16, 0x00AA#16, 0x00AA#16, 0x8001#16] ∧
      ([1, 249, 257, 321, 329, 337, 339].map fun c => ((p c).clock demo.cart).nextTileId) =
          [0x07#8, 0x07#8, 0x00#8, 0x07#8, 0x07#8, 0x07#8, 0x07#8] ∧
        ([3, 251, 259, 323, 331, 339].map fun c => ((p c).clock demo.cart).nextTileAttrib) =
          [2#2, 2#2, 0#2, 2#2, 2#2, 0#2] := by
  decide +kernel

theorem witness_backgroundPixel :
    let p := { (demoAt 0 0 0x00#8 0x0A#8).ppu with fineX := 7#3, bgPatLo := 0x0100#16, bgAttHi := 0x0100#16 }
    p.backgroundPixel 1 = (1#2, 2#2) ∧ { p with mask := 0x08#8 }.backgroundPixel 8 = (0#2, 0#2) ∧
      { p with mask := 0x08#8 }.backgroundPixel 9 = (1#2, 2#2) ∧ { p with mask := 0x02#8 }.backgroundPixel 9 = (0#2, 0#2) := by
  decide

theorem witness_DotPosition :
    (demoAt (-1) 1 0x00#8 0x18#8).ppu.Inv ∧ (demoAt 241 1 0x80#8 0x18#8).ppu.Inv ∧
      (demoAt 260 340 0x00#8 0x18#8).ppu.Inv ∧ (demoAt (-1) 0 0x00#8 0x18#8).ppu.Inv ∧
        (demoAt 240 340 0x00#8 0x18#8).ppu.Inv :=
  ⟨demoAt_inv _ _ _ _ (by decide) (by decide) (by decide),
    demoAt_inv _ _ _ _ (by decide) (by decide) (by decide),
    demoAt_inv _ _ _ _ (by decide) (by decide) (by decide),
    demoAt_inv _ _ _ _ (by decide) (by decide) (by decide),
    demoAt_inv _ _ _ _ (by decide) (by decide) (by decide)⟩

theorem witness_RenderingDisabled :
    (demoAt 239 256 0x00#8 0xE7#8).ppu.Inv ∧ (demoAt 0 0 0x00#8 0xE7#8).ppu.Inv ∧
      (0xE7#8).getLsbD 3 = false ∧ (0xE7#8).getLsbD 4 = false :=
  ⟨demoAt_inv _ _ _ _ (by decide) (by decide) (by decide),
    demoAt_inv _ _ _ _ (by decide) (by decide) (by decide), by decide, by decide⟩

/-- The two dots at which something is cleared with rendering disabled, and what is cleared. -/
theorem witness_RenderingDisabled_clears :
    let p (s : Int) (c : Nat) : Ppu :=
      { (demoAt s c 0x00#8 0xE7#8).ppu with
        spriteCount := 1, spriteZeroHit := true, slots := List.replicate 8 ⟨0xFF#8, 0xFF#8, 0x10#8, 0x20#8⟩ }
    ((p (-1) 1).Inv ∧ (p 239 257).Inv) ∧
      (((p (-1) 1).clock demo.cart).slots[0]? = some ⟨0x00#8, 0x00#8, 0x10#8, 0x20#8⟩ ∧
        ((p (-1) 1).clock demo.cart).spriteZeroHit = false) ∧
        (((p 239 257).clock demo.cart).spriteCount = 0 ∧ ((p 239 257).clock demo.cart).spriteZeroHit = true ∧
          ((p 239 257).clock demo.cart).secOam[7]? = some ⟨0xFF#8, 0xFF#8, 0xFF#8, 0xFF#8⟩) :=
  ⟨⟨{ demoAt_inv (-1) 1 0x00#8 0xE7#8 (by decide) (by decide) (by decide) with
        slots := rfl, spriteCountLe := by decide },
      { demoAt_inv 239 257 0x00#8 0xE7#8 (by decide) (by decide) (by decide) with
        slots := rfl, spriteCountLe := by decide }⟩, by decide +kernel⟩

theorem witness_PixelComposition :
    compose 0#2 3#2 ⟨0#2, 7#3, true, true⟩ = (0#2, 0#3) ∧ compose 0#2 3#2 ⟨1#2, 7#3, false, true⟩ = (1#2, 7#3) ∧
      compose 1#2 3#2 ⟨0#2, 7#3, true, true⟩ = (1#2, 3#3) ∧ compose 1#2 3#2 ⟨2#2, 7#3, true, true⟩ = (2#2, 7#3) ∧
        compose 1#2 3#2 ⟨2#2, 7#3, false, true⟩ = (1#2, 3#3) ∧
          (demoAt 0 0 0x00#8 0x18#8).ppu.spriteZeroTest 255 1#2 ⟨2#2, 7#3, false, true⟩ = true ∧
            (demoAt 0 0 0x00#8 0x18#8).ppu.spriteZeroTest 256 1#2 ⟨2#2, 7#3, false, true⟩ = false := by
  decide

/-- The first and the last dot of the picture; a dot that draws and one that sets the hit. -/
theorem witness_PixelComposition_drawn :
    let p (s : Int) (c : Nat) : Ppu :=
      { (demoAt s c 0x00#8 0x1E#8).ppu with
        palette := [(1, 0x21#8), (0x11, 0x16#8)], bgPatLo := 0xFFFF#16, spriteCount := 1, spriteZeroPossible := true,
        slots := ⟨0xFF#8, 0x00#8, 0x00#8, 0x20#8⟩ :: List.replicate 7 ⟨0x00#8, 0x00#8, 0x00#8, 0x00#8⟩ }
    ((p 0 1).Inv ∧ (p 239 256).Inv) ∧
      (Frame.read ((p 0 1).clock demo.cart).frame 0 0 = 0x21#6 ∧ ((p 0 1).clock demo.cart).spriteZeroHit = true) ∧
        (Frame.read ((p 239 256).clock demo.cart).frame 239 255 = 0x21#6 ∧
          ((p 239 256).clock demo.cart).spriteZeroHit = false) :=
  ⟨⟨{ demoAt_inv 0 1 0x00#8 0x1E#8 (by decide) (by decide) (by decide) with
        palette := ⟨by decide, by decide⟩, slots := rfl, spriteCountLe := by decide },
      { demoAt_inv 239 256 0x00#8 0x1E#8 (by decide) (by decide) (by decide) with
        palette := ⟨by decide, by decide⟩, slots := rfl, spriteCountLe := by decide }⟩, by decide +kernel⟩

theorem witness_SpriteEvaluation :
    (demoAt 0 0 0x00#8 0x08#8).ppu.rendering = true ∧ (demoAt 0 0 0x20#8 0x10#8).ppu.rendering = true := by
  decide

/-- One sprite of row 0 in a secondary OAM whose further entries are not in range, and the pattern bytes of its tile 1. -/
def spriteAt (s : Int) (c : Nat) (ctrl attr : Byte) : Ppu :=
  { (demoAt s c ctrl 0x14#8).ppu with
    secOam := ⟨0x00#8, 0x01#8, attr, 0x09#8⟩ :: List.replicate 7 ⟨0xFF#8, 0xFF#8, 0xFF#8, 0xFF#8⟩
    spriteCount := 1
    slots := List.replicate 8 ⟨0x81#8, 0x01#8, 0x00#8, 0x00#8⟩ }

theorem spriteAt_inv (s : Int) (c : Nat) (ctrl attr : Byte) (h1 : -1 ≤ s) (h2 : s ≤ 260) (h3 : c ≤ 340) :
    (spriteAt s c ctrl attr).Inv :=
  { demoAt_inv s c ctrl 0x14#8 h1 h2 h3 with slots := rfl, secOam := rfl, spriteCountLe := (by decide : 1 ≤ 8) }

def spriteCart : Cartridge :=
  ⟨[], [(0x0010, 0xC0#8), (0x0017, 0x0F#8), (0x001F, 0x80#8)], 1, 1, 0x00#8, .horizontal, false, []⟩

/-- The dots of the sprite pipeline at their boundary scanlines and cycles; the fetch with and without flips. -/
theorem witness_SpriteEvaluation_pipeline :
    let q (s : Int) (c : Nat) (attr : Byte) := ((spriteAt s c 0x00#8 attr).clock (some spriteCart)).slots[0]?
    ((spriteAt (-1) 1 0x00#8 0x00#8).Inv ∧ (spriteAt 0 320 0x00#8 0x00#8).Inv ∧ (spriteAt 239 257 0x00#8 0x00#8).Inv) ∧
      ((spriteAt 0 320 0x00#8 0x00#8).rendering = true ∧
        (spriteAt 0 320 0x00#8 0x00#8).secOam[0]? = some ⟨0x00#8, 0x01#8, 0x00#8, 0x09#8⟩) ∧
        (q 0 320 0x00#8 = some ⟨0xC0#8, 0x00#8, 0x09#8, 0x00#8⟩ ∧ q 0 320 0x40#8 = some ⟨0x03#8, 0x00#8, 0x09#8, 0x40#8⟩ ∧
          q 0 320 0x80#8 = some ⟨0x0F#8, 0x80#8, 0x09#8, 0x80#8⟩ ∧ q 7 320 0x00#8 = some ⟨0x0F#8, 0x80#8, 0x09#8, 0x00#8⟩) ∧
          (q 0 1 0x00#8 = some ⟨0x81#8, 0x01#8, 0x00#8, 0x00#8⟩ ∧ q 0 2 0x00#8 = some ⟨0x02#8, 0x02#8, 0x00#8, 0x00#8⟩ ∧
            q (-1) 256 0x00#8 = some ⟨0x02#8, 0x02#8, 0x00#8, 0x00#8⟩ ∧
              q 239 257 0x00#8 = some ⟨0x00#8, 0x00#8, 0x00#8, 0x00#8⟩ ∧
                q (-1) 257 0x00#8 = some ⟨0x02#8, 0x02#8, 0x00#8, 0x00#8⟩ ∧
                  q 0 258 0x00#8 = some ⟨0x81#8, 0x01#8, 0x00#8, 0x00#8⟩ ∧
                    q (-1) 1 0x00#8 = some ⟨0x00#8, 0x00#8, 0x00#8, 0x00#8⟩) :=
  ⟨⟨spriteAt_inv _ _ _ _ (by decide) (by decide) (by decide), spriteAt_inv _ _ _ _ (by decide) (by decide) (by decide),
      spriteAt_inv _ _ _ _ (by decide) (by decide) (by decide)⟩, by decide +kernel⟩

/-- Sprite pixels: opaque, clipped, masked, and none. -/
theorem witness_spritePixel :
    let p := { spriteAt 0 0 0x00#8 0x00#8 with mask := 0x10#8 }
    p.spritePixel 9 = ⟨1#2, 4#3, true, false⟩ ∧ p.spritePixel 8 = ⟨0#2, 0#3, false, false⟩ ∧
      { p with mask := 0x04#8 }.spritePixel 9 = ⟨0#2, 0#3, false, false⟩ ∧
        { p with slots := [⟨0x00#8, 0x00#8, 0x00#8, 0x00#8⟩] }.spritePixel 9 = ⟨0#2, 0#3, false, false⟩ := by
  decide

/-- The registers that do nothing, and the last register that does something before each. -/
theorem witness_ApuRegisterWrites :
    0x09 ∈ [0x09, 0x0D, 0x10, 0x11, 0x12, 0x13] ∧ 0x13 ∈ [0x09, 0x0D, 0x10, 0x11, 0x12, 0x13] := by
  decide

theorem witness_ApuClocking :
    Apu.initial.div = 0 ∧ Apu.initial.noise.timer = 0#12 ∧ Apu.initial.noise.lfsr ≠ 0#15 ∧
      (let a := { Apu.initial with div := 3, frameCounter := 7456 };
        a.div % 3 = 0 ∧ a.div ≠ 0 ∧ a.frameCounter + 1 = 7457) ∧
        (let a := { Apu.initial with div := 5 };
          a.div % 3 ≠ 0) ∧
          ({ Noise.initial with timer := 1#12 }).timer ≠ 0#12 := by
  decide

theorem witness_SampleCount : demo.Inv := demo_inv

theorem witness_MapperReads :
    State.reset.cart = none ∧ (∃ c, demo.cart = some c ∧ 1 < c.prgBanks) ∧
      (∃ c, ({ demo with cart := some ⟨[], [], 1, 1, 0x00#8, .horizontal, false, []⟩ } : State).cart = some c ∧
          c.prgBanks ≤ 1) ∧
        (0x7FFF#16).toNat < 0x8000 ∧ 0x8000 ≤ (0x8000#16).toNat :=
  ⟨rfl, ⟨_, rfl, by decide⟩, ⟨_, rfl, by decide⟩, by decide, by decide⟩

theorem witness_InsertCartridge_errors :
    ([] : List Byte).length < 16 ∧
      (let h := header [0x4E#8, 0x45#8, 0x53#8, 0x1B#8];
        16 ≤ h.length ∧ h.getD 3 0#8 ≠ 0x1A#8) ∧
        (let h := header [0x4E#8, 0x45#8, 0x53#8, 0x1A#8, 0#8, 1#8];
          16 ≤ h.length ∧ h.getD 3 0#8 = 0x1A#8 ∧ h.length < 16 + 8192) ∧
          (let h := header [0x4E#8, 0x45#8, 0x53#8, 0x1A#8, 0#8, 0#8];
            16 ≤ h.length ∧ 16 + 16384 * (h.getD 4 0#8).toNat + 8192 * (h.getD 5 0#8).toNat ≤ h.length ∧
              h.getD 4 0#8 = 0#8) := by
  decide +kernel

/-- An image of one program bank, of CHR RAM (`chr` 0) or one character bank, with these flag bytes. -/
def image (chr b6 b7 : Byte) : List Byte :=
  header [0x4E#8, 0x45#8, 0x53#8, 0x1A#8, 1#8, chr, b6, b7] ++ List.replicate 24576 0xEA#8

theorem image_length (chr b6 b7 : Byte) : (image chr b6 b7).length = 24592 := by
  have h : (header [0x4E#8, 0x45#8, 0x53#8, 0x1A#8, 1#8, chr, b6, b7]).length = 16 := rfl
  rw [image, List.length_append, List.length_replicate, h]

theorem image_header (chr b6 b7 : Byte) (i : Nat) (h : i < 16) :
    (image chr b6 b7).getD i 0#8 = (header [0x4E#8, 0x45#8, 0x53#8, 0x1A#8, 1#8, chr, b6, b7]).getD i 0#8 := by
  have hl : i < (header [0x4E#8, 0x45#8, 0x53#8, 0x1A#8, 1#8, chr, b6, b7]).length := by exact h
  simp only [image, List.getD_eq_getElem?_getD, List.getElem?_append_left hl]

/-- An image that loads, four-screen and not; and one of another mapper. -/
theorem witness_InsertCartridge_loaded (b6 b7 : Byte) :
    let at' (i : Nat) := (image 1#8 b6 b7).getD i 0#8
    16 ≤ (image 1#8 b6 b7).length ∧ at' 0 = 0x4E#8 ∧ at' 1 = 0x45#8 ∧ at' 2 = 0x53#8 ∧ at' 3 = 0x1A#8 ∧
      16 + 16384 * (at' 4).toNat + 8192 * (at' 5).toNat ≤ (image 1#8 b6 b7).length ∧ at' 4 ≠ 0#8 ∧ at' 6 = b6 ∧
        at' 7 = b7 := by
  simp only [image_header _ _ _ _ (by decide : (0 : Nat) < 16), image_header _ _ _ _ (by decide : 1 < 16),
    image_header _ _ _ _ (by decide : 2 < 16), image_header _ _ _ _ (by decide : 3 < 16),
    image_header _ _ _ _ (by decide : 4 < 16), image_header _ _ _ _ (by decide : 5 < 16),
    image_header _ _ _ _ (by decide : 6 < 16), image_header _ _ _ _ (by decide : 7 < 16), image_length]
  simp [header]

/-- The mapper ids of such images, 0 and not 0, and the trainer bit that they leave clear. -/
theorem witness_InsertCartridge_mapper :
    ((0x0F#8 : Byte) &&& 0xF0#8) ||| ((0x0B#8 : Byte) >>> 4) = 0#8 ∧ (0x0B#8 : Byte).getLsbD 2 = false ∧
      ((0x00#8 : Byte) &&& 0xF0#8) ||| ((0x10#8 : Byte) >>> 4) = 1#8 ∧ (0x10#8 : Byte).getLsbD 2 = false := by
  decide

theorem witness_ResetMeetsInvariant :
    Memory.Inv 2048 demo.bus.ram ∧ Memory.Inv 2048 demo.ppu.vram ∧ Memory.Inv 32 demo.ppu.palette ∧
      Memory.Inv 256 demo.ppu.oam ∧ demo.ppu.frame.wf = true ∧ (∀ c, demo.cart = some c → c.Inv) :=
  ⟨demo_inv.bus.ram, demo_inv.ppu.vram, demo_inv.ppu.palette, demo_inv.ppu.oam, demo_inv.ppu.frame, demo_inv.cart⟩

theorem witness_StepKeepsInvariant : demo.Inv ∧ ∃ t, step demo = .next t := ⟨demo_inv, _, rfl⟩

theorem witness_HostKeepsInvariant :
    demo.Inv ∧ HostOp.Sized .clock ∧ HostOp.Sized (.reset ⟨1#8, 2#8, 3#8⟩) ∧
      HostOp.Sized (.insertCartridge none [(0x1FFF, 1#8)] [(0x7FF, 1#8)]) ∧ HostOp.Sized (.cpuWrite 0xFFFF#16 0xFF#8) :=
  ⟨demo_inv, trivial, trivial, ⟨⟨by decide, by decide⟩, ⟨by decide, by decide⟩⟩, trivial⟩

end Sys2Proof.Machine.Tests
end

section
/-! The stack page (R24): where pushed bytes lie, and what a push leaves unchanged. -/

namespace Sys2Proof.Proofs

open Sys2Proof.Machine Sys2Proof.Laws

theorem stackIndex_lt (sp : Byte) : 0x100 + sp.toNat < 2048 := by omega

/-- The location of push number `k + 1` from `sp` is that of push number `k` from the next stack pointer. -/
theorem sub_one_sub_ofNat (sp : Byte) (k : Nat) : sp - 1#8 - BitVec.ofNat 8 k = sp - BitVec.ofNat 8 (k + 1) := by
  bv_omega

/-- Fewer than 256 pushes do not come back to the first location. -/
theorem toNat_ne_toNat_sub {k : Nat} (sp : Byte) (h0 : 0 < k) (hk : k < 256) :
    sp.toNat ≠ (sp - BitVec.ofNat 8 k).toNat := by
  bv_omega

theorem pushedRam_inv {m : Memory} (h : Memory.Inv 2048 m) (sp : Byte) (bytes : List Byte) :
    Memory.Inv 2048 (pushedRam m sp bytes) := by
  induction bytes generalizing m sp with
  | nil => exact h
  | cons v rest ih => exact ih (memory_inv_write h (stackIndex_lt sp) v) _

/-- Pushing changes only the locations that it goes through, from `sp` down. -/
theorem pushedRam_read_other (m : Memory) (sp : Byte) (bytes : List Byte) {i : Nat}
    (h : ∀ k < bytes.length, i ≠ 0x100 + (sp - BitVec.ofNat 8 k).toNat) :
    (pushedRam m sp bytes).read i = m.read i := by
  induction bytes generalizing m sp with
  | nil => rfl
  | cons v rest ih =>
    have hrest : ∀ k < rest.length, i ≠ 0x100 + (sp - 1#8 - BitVec.ofNat 8 k).toNat := fun k hk => by
      rw [sub_one_sub_ofNat]
      exact h (k + 1) (Nat.succ_lt_succ hk)
    have hfirst : i ≠ 0x100 + sp.toNat := by simpa using h 0 (by simp)
    exact (ih _ _ hrest).trans (memory_read_write_other m v hfirst)

/-- Byte `k` of at most 256 pushed bytes is found `k` below `sp`, modulo 256. -/
theorem pushedRam_read_pushed {m : Memory} (hm : m.wf = true) (sp : Byte) {bytes : List Byte}
    (hlen : bytes.length ≤ 256) {k : Nat} (hk : k < bytes.length) :
    (pushedRam m sp bytes).read (0x100 + (sp - BitVec.ofNat 8 k).toNat) = bytes[k] := by
  induction bytes generalizing m sp k with
  | nil => exact absurd hk (Nat.not_lt_zero k)
  | cons v rest ih =>
    have hlen' : rest.length + 1 ≤ 256 := hlen
    cases k with
    | zero =>
      have hrest : ∀ j < rest.length, 0x100 + sp.toNat ≠ 0x100 + (sp - 1#8 - BitVec.ofNat 8 j).toNat := fun j hj => by
        have := toNat_ne_toNat_sub sp (k := j + 1) (by omega) (by omega)
        rw [sub_one_sub_ofNat]
        omega
      rw [BitVec.sub_zero]
      exact (pushedRam_read_other _ _ rest hrest).trans (memory_read_write_same hm _ v)
    | succ k =>
      rw [← sub_one_sub_ofNat]
      exact ih (memory_wf_write hm _ v) _ (by omega) (Nat.lt_of_succ_lt_succ hk)

/-- Settles O35: the general facts about pushed bytes, for three of them. -/
theorem stackBytes : Obligations.StackBytes := by
  intro m sp b0 b1 b2 hm
  have hlen : [b0, b1, b2].length ≤ 256 := by simp
  refine ⟨pushedRam_inv hm sp _, ?_, ?_, ?_, fun i h0 h1 h2 => ?_⟩
  · simpa using pushedRam_read_pushed hm.wf sp hlen (k := 0) (by simp)
  · exact pushedRam_read_pushed hm.wf sp hlen (k := 1) (by simp)
  · exact pushedRam_read_pushed hm.wf sp hlen (k := 2) (by simp)
  · refine pushedRam_read_other m sp _ fun k hk => ?_
    match k, hk with
    | 0, _ => simpa using h0
    | 1, _ => exact h1
    | 2, _ => exact h2

end Sys2Proof.Proofs
end

section
/-! The vectors (R85), the interrupt entry (R301 to R306) and reset (R570 to R576) as equations, and the invariant of the
states after reset. -/

namespace Sys2Proof.Proofs

open Sys2Proof.Machine Sys2Proof.Laws

/-- The two bytes of a vector lie in cartridge space (R85). -/
def InCartridge (vector : Word) : Prop := 0x4020 ≤ vector.toNat ∧ 0x4020 ≤ (vector + 1#16).toNat

theorem inCartridge_nmiVector : InCartridge nmiVector := ⟨by decide, by decide⟩
theorem inCartridge_resetVector : InCartridge resetVector := ⟨by decide, by decide⟩

/-- A vector depends on the cartridge alone. -/
theorem peekWord_inCartridge {vector : Word} (h : InCartridge vector) (s : State) :
    peekWord vector s = wordOf (cartRead s.cart vector) (cartRead s.cart (vector + 1#16)) := by
  unfold peekWord
  rw [peek_cart h.1, peek_cart h.2]

/-- Reading a vector has no side effect. -/
theorem readWord_inCartridge {vector : Word} (h : InCartridge vector) (s : State) :
    readWord vector (vector + 1#16) s = (peekWord vector s, s) :=
  readWord_plain (.inr h.1) (.inr h.2) s

/-- Three pushes: the return address, high byte first, then a status byte (R306). -/
theorem push_pushWord_eq (status : Byte) (ret : Word) (s : State) :
    push status (pushWord ret s) =
      { s with
        cpu := { s.cpu with sp := s.cpu.sp - 3#8 }
        bus := { s.bus with ram := pushedRam s.bus.ram s.cpu.sp [hiByte ret, loByte ret, status] } } := by
  have hsp : s.cpu.sp - 1#8 - 1#8 - 1#8 = s.cpu.sp - 3#8 := by bv_omega
  unfold pushWord
  simp only [push_eq, pushedRam, hsp]

/-- The interrupt entry as one equation. -/
theorem enterInterrupt_eq (ret : Word) (status : Byte) (disable : Bool) {vector : Word} (h : InCartridge vector)
    (s : State) :
    enterInterrupt ret status disable vector s =
      { s with
        cpu :=
          { s.cpu with
            sp := s.cpu.sp - 3#8
            pc := peekWord vector s
            p := if disable then setFlag maskI true s.cpu.p else s.cpu.p }
        bus := { s.bus with ram := pushedRam s.bus.ram s.cpu.sp [hiByte ret, loByte ret, status] } } := by
  unfold enterInterrupt
  simp only [push_pushWord_eq, readWord_inCartridge h, peekWord_inCartridge h]
  cases disable <;> rfl

/-- Taking an NMI neither reads nor writes the APU. -/
theorem cpuNmi_apuTick (s : State) : cpuNmi (apuTick s) = apuTick (cpuNmi s) := by
  unfold cpuNmi
  simp only [enterInterrupt_eq _ _ _ inCartridge_nmiVector, peekWord_inCartridge inCartridge_nmiVector]
  rfl

theorem map_mapperReset (cart : Option Cartridge) : cart.map Cartridge.mapperReset = cart := by
  cases cart <;> rfl

/-- `Bus.reset()` as one equation: the program counter from the reset vector, each block reset, the cartridge kept. -/
theorem busReset_eq (r : ResetValues) (s : State) :
    busReset r s =
      { cpu :=
          { a := r.a, x := r.x, y := r.y, sp := 0xFD#8, pc := peekWord resetVector s, p := 0x24#8,
            cycles := resetCycles, clockCount := 0 }
        bus := s.bus.resetOwn
        ppu := s.ppu.reset
        apu := Apu.initial
        cart := s.cart } := by
  unfold busReset cpuReset
  simp only [map_mapperReset, readWord_inCartridge inCartridge_resetVector]
  rfl

theorem resetCpu_inv (a x y sp : Byte) (pc : Word) : Cpu.Inv ⟨a, x, y, sp, pc, 0x24#8, resetCycles, 0⟩ where
  breakClear := (by decide : flagB 0x24#8 = false)
  unusedSet := (by decide : flagU 0x24#8 = true)
  cyclesLe := Nat.le_refl 8

theorem resetOwn_inv {b : Bus} (h : Memory.Inv 2048 b.ram) : b.resetOwn.Inv where
  ram := h
  sampleAcc := Nat.succ_pos _
  sampleNonneg := le_refl 0
  sampleLe := zero_le_one

theorem ppuInitial_inv {vram palette oam : Memory} {frame : Frame} (hv : Memory.Inv 2048 vram)
    (hp : Memory.Inv 32 palette) (ho : Memory.Inv 256 oam) (hf : frame.wf = true) :
    (Ppu.initial vram palette oam frame).Inv where
  vram := hv
  palette := hp
  oam := ho
  frame := hf
  scanlineGe := (by decide : (-1 : Int) ≤ 0)
  scanlineLe := (by decide : (0 : Int) ≤ 260)
  cycleLe := Nat.zero_le 340
  spriteCountLe := Nat.zero_le 8
  secOam := rfl
  slots := rfl
  nmiOut := rfl

theorem apuInitial_inv : Apu.initial.Inv where
  lfsr := by decide
  length1 := Nat.zero_le 254
  length2 := Nat.zero_le 254
  lengthT := Nat.zero_le 254
  lengthN := Nat.zero_le 254
  frameCounter := wrapCount_pos false
  div := by decide

/-- The model's own state after reset meets the invariant. -/
theorem reset_inv : State.reset.Inv where
  cpu := resetCpu_inv 0#8 0#8 0#8 0xFD#8 0#16
  bus := resetOwn_inv (b := State.reset.bus) (memory_inv_nil 2048)
  ppu := ppuInitial_inv (memory_inv_nil 2048) (memory_inv_nil 32) (memory_inv_nil 256) rfl
  apu := apuInitial_inv
  cart _ h := nomatch h
  divider := rfl

/-- `Bus.reset()` makes a state that meets the invariant, of any well-formed memories. -/
theorem busReset_inv (r : ResetValues) {s : State} (hram : Memory.Inv 2048 s.bus.ram)
    (hvram : Memory.Inv 2048 s.ppu.vram) (hpalette : Memory.Inv 32 s.ppu.palette) (hoam : Memory.Inv 256 s.ppu.oam)
    (hframe : s.ppu.frame.wf = true) (hcart : ∀ c, s.cart = some c → c.Inv) : (busReset r s).Inv := by
  rw [busReset_eq]
  exact
    { cpu := resetCpu_inv r.a r.x r.y 0xFD#8 _
      bus := resetOwn_inv hram
      ppu := { ppuInitial_inv hvram hpalette hoam hframe with }
      apu := apuInitial_inv
      cart := hcart
      divider := rfl }

/-- Settles O58: the model's reset state, and `Bus.reset()` by its equation. -/
theorem resetMeetsInvariant : Obligations.ResetMeetsInvariant :=
  ⟨reset_inv, fun r _ hram hvram hpalette hoam hframe hcart => busReset_inv r hram hvram hpalette hoam hframe hcart⟩

end Sys2Proof.Proofs
end

section
/-! A CPU slot does not see the NMI request (R353). `nmi_out` is set by the PPU's dot, before the slot, and read by the NMI
delivery, after it: the slot runs on a state that does not meet `State.Inv` while a request stands. Every access of the
CPU and of the DMA engine commutes with setting it. -/

namespace Sys2Proof.Proofs

open Sys2Proof.Machine Sys2Proof.Laws

/-- `nmi_out <- b`. -/
def setNmiOut (b : Bool) (s : State) : State := { s with ppu := { s.ppu with nmiOut := b } }

/-- Apply a change to the next state of an outcome. -/
def onNext (f : State → State) : Host.Outcome State Fault Refusal → Host.Outcome State Fault Refusal
  | .next t => .next (f t)
  | .fault e => .fault e
  | .refused e => .refused e

@[simp] theorem onNext_complete_setNmiOut (b : Bool) (n : Nat) (s : State) :
    onNext (setNmiOut b) (complete n s) = complete n (setNmiOut b s) := rfl

section NmiOut
variable (b : Bool)

@[simp] theorem setNmiOut_cpu (s : State) : (setNmiOut b s).cpu = s.cpu := rfl
@[simp] theorem setNmiOut_bus (s : State) : (setNmiOut b s).bus = s.bus := rfl
@[simp] theorem setNmiOut_cart (s : State) : (setNmiOut b s).cart = s.cart := rfl
@[simp] theorem setSP_setNmiOut (v : Byte) (s : State) : setSP v (setNmiOut b s) = setNmiOut b (setSP v s) := rfl
@[simp] theorem setPC_setNmiOut (v : Word) (s : State) : setPC v (setNmiOut b s) = setNmiOut b (setPC v s) := rfl
@[simp] theorem setP_setNmiOut (v : Byte) (s : State) : setP v (setNmiOut b s) = setNmiOut b (setP v s) := rfl

theorem readPort_nmiOut (cart : Option Cartridge) (port : BitVec 3) (ro : Bool) (p : Ppu) :
    Ppu.readPort cart port ro { p with nmiOut := b } =
      ((p.readPort cart port ro).1, { (p.readPort cart port ro).2 with nmiOut := b }) := by
  unfold Ppu.readPort Ppu.readStatus Ppu.readData
  split <;> cases ro <;> rfl

theorem ppuWrite_nmiOut (cart : Option Cartridge) (p : Ppu) (a : PpuAddr) (data : Byte) :
    ppuWrite cart { p with nmiOut := b } a data =
      ({ (ppuWrite cart p a data).1 with nmiOut := b }, (ppuWrite cart p a data).2) := by
  unfold ppuWrite
  split
  · rfl
  · split
    · unfold nametableWrite
      split
      · rfl
      · cases cart <;> rfl
    · rfl

theorem writePort_nmiOut (cart : Option Cartridge) (port : BitVec 3) (data : Byte) (p : Ppu) :
    Ppu.writePort cart port data { p with nmiOut := b } =
      ({ (p.writePort cart port data).1 with nmiOut := b }, (p.writePort cart port data).2) := by
  unfold Ppu.writePort
  split
  · rfl
  · rfl
  · rfl
  · rfl
  · unfold Ppu.writeScroll
    dsimp only
    split <;> rfl
  · unfold Ppu.writeAddress
    dsimp only
    split <;> rfl
  · unfold Ppu.writeData
    simp only [ppuWrite_nmiOut]
    rfl
  · rfl

theorem cpuRead_setNmiOut (a : Word) (ro : Bool) (s : State) :
    cpuRead a ro (setNmiOut b s) = ((cpuRead a ro s).1, setNmiOut b (cpuRead a ro s).2) := by
  unfold cpuRead setNmiOut
  split <;> try rfl
  · simp only [readPort_nmiOut]
  · cases ro <;> rfl
  · cases ro <;> rfl

theorem cpuWrite_setNmiOut (a : Word) (v : Byte) (s : State) :
    cpuWrite a v (setNmiOut b s) = setNmiOut b (cpuWrite a v s) := by
  unfold cpuWrite setNmiOut
  split <;> try rfl
  simp only [writePort_nmiOut]

@[simp] theorem memRead_setNmiOut (a : Word) (s : State) :
    memRead a (setNmiOut b s) = ((memRead a s).1, setNmiOut b (memRead a s).2) := cpuRead_setNmiOut b a false s

@[simp] theorem memWrite_setNmiOut (a : Word) (v : Byte) (s : State) :
    memWrite a v (setNmiOut b s) = setNmiOut b (memWrite a v s) := cpuWrite_setNmiOut b a v s

@[simp] theorem readWord_setNmiOut (lo hi : Word) (s : State) :
    readWord lo hi (setNmiOut b s) = ((readWord lo hi s).1, setNmiOut b (readWord lo hi s).2) := by
  simp [readWord]

@[simp] theorem push_setNmiOut (v : Byte) (s : State) : push v (setNmiOut b s) = setNmiOut b (push v s) := by
  simp [push]

@[simp] theorem pull_setNmiOut (s : State) : pull (setNmiOut b s) = ((pull s).1, setNmiOut b (pull s).2) := by
  simp [pull]

@[simp] theorem pushWord_setNmiOut (w : Word) (s : State) :
    pushWord w (setNmiOut b s) = setNmiOut b (pushWord w s) := by
  simp [pushWord]

@[simp] theorem pullWord_setNmiOut (s : State) :
    pullWord (setNmiOut b s) = ((pullWord s).1, setNmiOut b (pullWord s).2) := by
  simp [pullWord]

@[simp] theorem enterInterrupt_setNmiOut (ret : Word) (status : Byte) (disable : Bool) (vector : Word) (s : State) :
    enterInterrupt ret status disable vector (setNmiOut b s) =
      setNmiOut b (enterInterrupt ret status disable vector s) := by
  cases disable <;> simp [enterInterrupt]

@[simp] theorem returnFromInterrupt_setNmiOut (s : State) :
    returnFromInterrupt (setNmiOut b s) = setNmiOut b (returnFromInterrupt s) := by
  simp [returnFromInterrupt]

/-- The effective address and the crossing are the same, with or without the request. -/
@[simp] theorem resolve_setNmiOut (m : MemOperand) (s : State) :
    resolve m (setNmiOut b s) = ⟨(resolve m s).ea, (resolve m s).crossed, setNmiOut b (resolve m s).st⟩ := by
  cases m <;> simp [resolve, indexed, zeroPagePointer]

@[simp] theorem loadOperand_setNmiOut (m : ReadOperand) (s : State) :
    loadOperand m (setNmiOut b s) =
      ⟨(loadOperand m s).value, (loadOperand m s).crossed, setNmiOut b (loadOperand m s).st⟩ := by
  cases m <;> simp [loadOperand, loadMem]

@[simp] theorem jumpAddress_setNmiOut (t : JumpTarget) (s : State) :
    jumpAddress t (setNmiOut b s) = ((jumpAddress t s).1, setNmiOut b (jumpAddress t s).2) := by
  cases t <;> simp [jumpAddress]

/-- A reading instruction, whose work on the registers commutes with setting the request. -/
theorem readThen_setNmiOut (m : ReadOperand) {f : Byte → State → State}
    (hf : ∀ v t, f v (setNmiOut b t) = setNmiOut b (f v t)) (s : State) :
    readThen m f (setNmiOut b s) = onNext (setNmiOut b) (readThen m f s) := by
  simp [readThen, hf]

theorem storeTo_setNmiOut (m : MemOperand) (v : Byte) (s : State) :
    storeTo m v (setNmiOut b s) = onNext (setNmiOut b) (storeTo m v s) := by
  simp [storeTo]

theorem modifyMem_setNmiOut (m : MemOperand) (f : Byte → Byte → Byte × Byte) (s : State) :
    modifyMem m f (setNmiOut b s) = onNext (setNmiOut b) (modifyMem m f s) := by
  simp [modifyMem]

theorem shiftOperand_setNmiOut (f : Byte → Bool → ShiftResult) (m : ShiftOperand) (s : State) :
    shiftOperand f m (setNmiOut b s) = onNext (setNmiOut b) (shiftOperand f m s) := by
  cases m with
  | acc => rfl
  | mem m => unfold shiftOperand; exact modifyMem_setNmiOut b m _ s

theorem branchIf_setNmiOut (c : Bool) (off : Byte) (s : State) :
    branchIf c off (setNmiOut b s) = onNext (setNmiOut b) (branchIf c off s) := by
  cases c <;> rfl

/-- Every instruction commutes with setting the request. Those of the last arm work on CPU registers alone. -/
theorem exec_setNmiOut (i : Instr) (s : State) : exec i (setNmiOut b s) = onNext (setNmiOut b) (exec i s) := by
  cases i with
  | lda m | ldx m | ldy m | adc m | sbc m | and m | ora m | eor m | cmp m | cpx m | cpy m =>
    simp only [exec, execLda, execLdx, execLdy, execAdc, execSbc, execAnd, execOra, execEor, execCmp, execCpx, execCpy]
    refine readThen_setNmiOut b m ?_ s
    exact fun _ _ => rfl
  | bit m =>
    simp only [exec, execBit]
    refine readThen_setNmiOut b (.mem m) ?_ s
    exact fun _ _ => rfl
  | sta m | stx m | sty m => exact storeTo_setNmiOut b m _ s
  | asl m | lsr m | rol m | ror m => exact shiftOperand_setNmiOut b _ m s
  | inc m | dec m => simp only [exec, execInc, execDec, modifyMem_setNmiOut]
  | bcc off | bcs off | beq off | bne off | bmi off | bpl off | bvc off | bvs off =>
    exact branchIf_setNmiOut b _ off s
  | jmp t => simp [exec, execJmp]
  | jsr w => simp [exec, execJsr]
  | rts => simp [exec, execRts]
  | pha => simp [exec, execPha]
  | php => simp [exec, execPhp]
  | plp => simp [exec, execPlp]
  | pla => simp only [exec, execPla, pull_setNmiOut]; rfl
  | brk => simp [exec, execBrk]
  | rti => simp [exec, execRti]
  | _ => rfl

@[simp] theorem fetchByte_setNmiOut (s : State) :
    fetchByte (setNmiOut b s) = ((fetchByte s).1, setNmiOut b (fetchByte s).2) := by
  simp [fetchByte]

@[simp] theorem fetchOperands_setNmiOut (n : Nat) (s : State) :
    fetchOperands n (setNmiOut b s) =
      ((fetchOperands n s).1, (fetchOperands n s).2.1, setNmiOut b (fetchOperands n s).2.2) := by
  unfold fetchOperands
  split
  · rfl
  · split <;> simp

theorem runInstr_setNmiOut (s : State) : runInstr (setNmiOut b s) = onNext (setNmiOut b) (runInstr s) := by
  unfold runInstr fetchInstr
  simp only [fetchByte_setNmiOut, fetchOperands_setNmiOut, exec_setNmiOut]

theorem cpuClock_setNmiOut (s : State) : cpuClock (setNmiOut b s) = onNext (setNmiOut b) (cpuClock s) := by
  unfold cpuClock
  rw [setNmiOut_cpu]
  split
  · rw [runInstr_setNmiOut]
    cases runInstr s <;> rfl
  · rfl

theorem dmaStep_setNmiOut (s : State) : dmaStep (setNmiOut b s) = setNmiOut b (dmaStep s) := by
  unfold dmaStep
  rw [setNmiOut_bus]
  split
  · split <;> rfl
  · split
    · simp only [dmaRead, setNmiOut_bus, memRead_setNmiOut]
      rfl
    · rfl

theorem cpuSlot_setNmiOut (s : State) : cpuSlot (setNmiOut b s) = onNext (setNmiOut b) (cpuSlot s) := by
  unfold cpuSlot
  rw [setNmiOut_bus]
  split
  · split
    · rw [dmaStep_setNmiOut]
      rfl
    · exact cpuClock_setNmiOut b s
  · rfl

end NmiOut

end Sys2Proof.Proofs
end

section
/-! The parts of a step (R350) keep the invariant, and so does the step. -/

namespace Sys2Proof.Proofs

open Sys2Proof.Machine Sys2Proof.Laws

theorem fetchByte_inv {s : State} (h : s.Inv) : (fetchByte s).2.Inv := setPC_inv (memRead_inv h _) _

theorem fetchOperands_inv {s : State} (h : s.Inv) (n : Nat) : (fetchOperands n s).2.2.Inv := by
  unfold fetchOperands
  split
  · exact h
  · split
    · exact fetchByte_inv h
    · exact fetchByte_inv (fetchByte_inv h)

theorem runInstr_inv {s : State} (h : s.Inv) : Completes (runInstr s) :=
  exec_inv (fetchOperands_inv (fetchByte_inv h) _) _

theorem countCycle_inv {s : State} (h : s.Inv) : (countCycle s).Inv :=
  inv_withCpu h { h.cpu with cyclesLe := (Nat.sub_le _ 1).trans h.cpu.cyclesLe }

theorem cpuClock_inv {s : State} (h : s.Inv) : Completes (cpuClock s) := by
  unfold cpuClock
  split
  · obtain ⟨t, ht, hinv⟩ := runInstr_inv h
    rw [ht]
    exact ⟨_, rfl, countCycle_inv hinv⟩
  · exact ⟨_, rfl, countCycle_inv h⟩

theorem cpuSlot_inv {s : State} (h : s.Inv) : Completes (cpuSlot s) := by
  unfold cpuSlot
  split
  · split
    · exact ⟨_, rfl, dmaStep_inv h⟩
    · exact cpuClock_inv h
  · exact ⟨_, rfl, h⟩

/-- Setting the request and clearing it again gives back a machine without one. -/
theorem setNmiOut_false_inv {s : State} (h : s.Inv) (b : Bool) : (setNmiOut false (setNmiOut b s)).Inv :=
  { h with ppu := (ppuOk_of_inv h.ppu : PpuOk s.ppu) }

/-- A dot keeps the invariant, but for the request it may raise. -/
theorem ppuTick_inv {s : State} (h : s.Inv) : (setNmiOut false (ppuTick s)).Inv := { h with ppu := ppuTick_ok h }

/-- The slot completes after the dot as it would with no request standing. -/
theorem cpuSlot_ppuTick_inv {s : State} (h : s.Inv) :
    ∃ t, cpuSlot (ppuTick s) = .next t ∧ (setNmiOut false t).Inv := by
  obtain ⟨t, ht, hinv⟩ := cpuSlot_inv (ppuTick_inv h)
  have hslot := cpuSlot_setNmiOut (ppuTick s).ppu.nmiOut (setNmiOut false (ppuTick s))
  rw [ht] at hslot
  exact ⟨_, hslot, setNmiOut_false_inv hinv _⟩

/-- The NMI delivery clears the request and keeps the rest of the invariant (R353). -/
theorem deliverNmi_inv {s : State} (h : (setNmiOut false s).Inv) : (deliverNmi s).Inv := by
  unfold deliverNmi
  split
  · exact cpuNmi_inv h
  · next hn => exact { h with ppu := { h.ppu with nmiOut := Bool.eq_false_iff.mpr hn } }

/-- The APU tick may as well follow the NMI delivery. -/
theorem deliverNmi_apuTick (s : State) : deliverNmi (apuTick s) = apuTick (deliverNmi s) := by
  unfold deliverNmi
  cases hn : s.ppu.nmiOut
  · rw [if_neg (by simp [apuTick, hn]), if_neg (by simp)]
  · rw [if_pos (by simp [apuTick, hn]), if_pos rfl]
    exact cpuNmi_apuTick (setNmiOut false s)

/-- The sample divider stays below the dot rate, and the sample within its range (R365, R520). -/
theorem sampleTick_bus_inv {s : State} (h : s.bus.Inv) : (sampleTick s).bus.Inv := by
  have hacc := h.sampleAcc
  have hrate := sampleRate_le
  by_cases hdue : sampleDue s = true
  · have hmix := mix_bounds s.apu
    refine { h with sampleAcc := ?_, sampleNonneg := ?_, sampleLe := ?_ }
    · simp only [sampleTick, if_pos hdue]
      omega
    · simpa only [sampleTick, if_pos hdue] using hmix.1
    · simp only [sampleTick, if_pos hdue]
      linarith [hmix.2]
  · have hlt : s.bus.sampleAcc + Config.sampleRateHz < Config.dotRateHz := by
      simpa [sampleDue] using hdue
    refine { h with sampleAcc := ?_, sampleNonneg := ?_, sampleLe := ?_ }
    · simpa only [sampleTick, if_neg hdue] using hlt
    · simpa only [sampleTick, if_neg hdue] using h.sampleNonneg
    · simpa only [sampleTick, if_neg hdue] using h.sampleLe

/-- The APU tick, the sample divider and the count of the dot together: the APU's divider stays in step with the Bus
clock (R351, R463). -/
theorem countDot_sampleTick_apuTick_inv {s : State} (h : s.Inv) : (countDot (sampleTick (apuTick s))).Inv :=
  { h with
    bus := { sampleTick_bus_inv (s := apuTick s) h.bus with }
    apu := apuClock_inv h.apu
    divider := by
      have hdiv : s.apu.div = s.bus.sysClock % 6 := h.divider
      change (s.apu.div + 1) % 6 = (s.bus.sysClock + 1) % 6
      omega }

theorem afterSlot_inv {s : State} (h : (setNmiOut false s).Inv) : (afterSlot s).Inv := by
  unfold afterSlot
  rw [deliverNmi_apuTick]
  exact countDot_sampleTick_apuTick_inv (deliverNmi_inv h)

/-- Every step from a state of the invariant completes in a state of the invariant. -/
theorem step_inv {s : State} (h : s.Inv) : Completes (step s) := by
  obtain ⟨t, hslot, hinv⟩ := cpuSlot_ppuTick_inv h
  refine ⟨afterSlot t, ?_, afterSlot_inv hinv⟩
  unfold step busClock
  rw [hslot]

/-- Settles O59: the step completes in one state only, and that state meets the invariant. -/
theorem stepKeepsInvariant : Obligations.StepKeepsInvariant := by
  intro s t h hstep
  obtain ⟨u, hu, hinv⟩ := step_inv h
  cases hstep.symm.trans hu
  exact hinv

end Sys2Proof.Proofs
end

section
/-! The CPU address decode (R74): the owner of each range of addresses. -/

namespace Sys2Proof.Proofs

open Sys2Proof.Machine Sys2Proof.Laws

/-- The ranges of the decode (R74, R76 to R79): every address lies in one of them. -/
theorem address_cases (a : Word) :
    a.toNat < 0x2000 ∨ (0x2000 ≤ a.toNat ∧ a.toNat < 0x4000) ∨ (0x4000 ≤ a.toNat ∧ a.toNat ≤ 0x4013) ∨
      a = 0x4014#16 ∨ a = 0x4015#16 ∨ a = 0x4016#16 ∨ a = 0x4017#16 ∨ (0x4018 ≤ a.toNat ∧ a.toNat ≤ 0x401F) ∨
        0x4020 ≤ a.toNat := by
  bv_omega

/-- A mask of the low `n` bits is a remainder: how the spec's masks of mirrors and the model's remainders agree. -/
theorem toNat_and_lowMask (a : Word) {mask : Word} {n : Nat} (h : mask.toNat = 2 ^ n - 1) :
    (a &&& mask).toNat = a.toNat % 2 ^ n := by
  rw [BitVec.toNat_and, h, Nat.and_two_pow_sub_one_eq_mod]

/-- The port of an address is its low three bits (R76). -/
theorem setWidth_port (a : Word) : a.setWidth 3 = BitVec.ofNat 3 (a.toNat % 8) :=
  BitVec.eq_of_toNat_eq (by simp)

theorem ownerOf_ppu {a : Word} (h : 0x2000 ≤ a.toNat) (h' : a.toNat < 0x4000) :
    ownerOf a = .ppu (BitVec.ofNat 3 (a.toNat % 8)) := by
  rw [← setWidth_port]
  simp (disch := omega) only [ownerOf, if_pos, if_neg]

theorem ownerOf_apu {a : Word} (h : 0x4000 ≤ a.toNat) (h' : a.toNat ≤ 0x4013) :
    ownerOf a = .apu (a.toNat - 0x4000) := by
  simp (disch := omega) only [ownerOf, if_pos, if_neg]

theorem ownerOf_unused {a : Word} (h : 0x4018 ≤ a.toNat) (h' : a.toNat ≤ 0x401F) : ownerOf a = .unused := by
  simp (disch := omega) only [ownerOf, if_pos, if_neg]

/-- Settles O32: the owner of each range, the mask of a mirror being a remainder. -/
theorem addressDecode : Obligations.AddressDecode := by
  intro a
  refine ⟨fun h => ?ram, fun ⟨h, h'⟩ => ?ppu, fun ⟨h, h'⟩ => ownerOf_apu h h', by decide, by decide, by decide,
    by decide, fun ⟨h, h'⟩ => ownerOf_unused h h', ownerOf_cart⟩
  case ram =>
    have hmask : (a &&& 0x07FF#16).toNat = a.toNat % 0x800 := toNat_and_lowMask a (n := 11) rfl
    rw [ownerOf_ram h, hmask]
  case ppu =>
    have hmask : (a &&& 0x0007#16).toNat = a.toNat % 8 := toNat_and_lowMask a (n := 3) rfl
    rw [ownerOf_ppu h h', setWidth_port, hmask, Nat.mod_mod]

end Sys2Proof.Proofs
end

section
/-! A CPU read by the owner of its address (R72, R80): the byte, and the side effects. -/

namespace Sys2Proof.Proofs

open Sys2Proof.Machine Sys2Proof.Laws

theorem cpuRead_ppu {a : Word} (h : 0x2000 ≤ a.toNat) (h' : a.toNat < 0x4000) (ro : Bool) (s : State) :
    cpuRead a ro s =
      ((s.ppu.readPort s.cart (BitVec.ofNat 3 (a.toNat % 8)) ro).1,
        { s with ppu := (s.ppu.readPort s.cart (BitVec.ofNat 3 (a.toNat % 8)) ro).2 }) := by
  unfold cpuRead
  rw [ownerOf_ppu h h']

theorem cpuRead_apu {a : Word} (h : 0x4000 ≤ a.toNat) (h' : a.toNat ≤ 0x4013) (ro : Bool) (s : State) :
    cpuRead a ro s = (0x00#8, s) := by
  unfold cpuRead
  rw [ownerOf_apu h h']

theorem cpuRead_unused {a : Word} (h : 0x4018 ≤ a.toNat) (h' : a.toNat ≤ 0x401F) (ro : Bool) (s : State) :
    cpuRead a ro s = (0x00#8, s) := by
  unfold cpuRead
  rw [ownerOf_unused h h']

/-- A read-only CPU read returns the byte of the other kind and changes nothing (R72). -/
theorem cpuRead_true_eq (a : Word) (s : State) : cpuRead a true s = ((cpuRead a false s).1, s) :=
  Prod.ext ((cpuRead_value a true s).trans (cpuRead_value a false s).symm) (cpuRead_readOnly a s)

/-- What a read of a port changes: the status port (R387), the data port (R391), no other. -/
theorem readPort_state (cart : Option Cartridge) (port : BitVec 3) (p : Ppu) :
    (p.readPort cart port false).2 =
      if port.toNat = 2 then { p with verticalBlank := false, w := false }
      else if port.toNat = 7 then { p with dataBuffer := ppuRead cart p (busAddress p.v), v := p.v + p.increment }
      else p := by
  unfold Ppu.readPort
  split
  · next h => rw [if_pos h]; rfl
  · next h => simp [h]
  · next h => simp [h, Ppu.readData]
  · next h2 _ h7 => rw [if_neg h2, if_neg h7]

/-- The single addresses whose reads answer lie outside the ranges. -/
theorem ne_single_of_range {a : Word} (h : a.toNat ≤ 0x4013 ∨ 0x4018 ≤ a.toNat) :
    a ≠ 0x4015#16 ∧ a ≠ 0x4016#16 ∧ a ≠ 0x4017#16 := by
  bv_omega

/-- Settles O33: the read-only read by its own lemma, the byte and the side effects range by range. -/
theorem readSideEffects : Obligations.ReadSideEffects := by
  intro a s
  refine and_left_comm.mp ⟨cpuRead_true_eq a s, ?_⟩
  rcases address_cases a with h | ⟨h, h'⟩ | ⟨h, h'⟩ | rfl | rfl | rfl | rfl | ⟨h, h'⟩ | h
  · have hne := ne_single_of_range (a := a) (by omega)
    rw [cpuRead_plain (.inl h), peek_ram h]
    simp (disch := omega) only [if_pos, if_neg, if_false, hne, and_self]
  · have hne := ne_single_of_range (a := a) (by omega)
    have hram : ¬a.toNat < 0x2000 := by omega
    have hport : (BitVec.ofNat 3 (a.toNat % 8)).toNat = a.toNat % 8 := by simp
    rw [cpuRead_ppu h h', readPort_state, hport]
    simp only [h, h', hram, hne, true_and, if_true, if_false]
    split
    · rfl
    · split <;> rfl
  · have hne := ne_single_of_range (a := a) (by omega)
    rw [cpuRead_apu h h']
    simp (disch := omega) only [if_pos, if_neg, if_false, hne, and_self]
  · exact ⟨rfl, rfl⟩
  · exact ⟨rfl, rfl⟩
  · exact ⟨rfl, rfl⟩
  · exact ⟨rfl, rfl⟩
  · have hne := ne_single_of_range (a := a) (by omega)
    rw [cpuRead_unused h h']
    simp (disch := omega) only [if_pos, if_neg, if_false, hne, and_self]
  · have hne := ne_single_of_range (a := a) (by omega)
    rw [cpuRead_plain (.inr h), peek_cart h]
    simp (disch := omega) only [if_neg, if_false, hne, and_self]

end Sys2Proof.Proofs
end

section
/-! A CPU write by the owner of its address (R74, R84), and the loads that see it (R76, R90). -/

namespace Sys2Proof.Proofs

open Sys2Proof.Machine Sys2Proof.Laws

theorem cpuWrite_ppu {b : Word} (h : 0x2000 ≤ b.toNat) (h' : b.toNat < 0x4000) (v : Byte) (s : State) :
    cpuWrite b v s =
      { s with
        ppu := (s.ppu.writePort s.cart (BitVec.ofNat 3 (b.toNat % 8)) v).1
        cart := (s.ppu.writePort s.cart (BitVec.ofNat 3 (b.toNat % 8)) v).2 } := by
  unfold cpuWrite
  rw [ownerOf_ppu h h']

theorem cpuWrite_apu {b : Word} (h : 0x4000 ≤ b.toNat) (h' : b.toNat ≤ 0x4013) (v : Byte) (s : State) :
    cpuWrite b v s = { s with apu := s.apu.write (b.toNat - 0x4000) v } := by
  unfold cpuWrite
  rw [ownerOf_apu h h']

theorem cpuWrite_unused {b : Word} (h : 0x4018 ≤ b.toNat) (h' : b.toNat ≤ 0x401F) (v : Byte) (s : State) :
    cpuWrite b v s = s := by
  unfold cpuWrite
  rw [ownerOf_unused h h']

/-- A write of the status port is ignored (R386). -/
theorem cpuWrite_statusPort {b : Word} (h : 0x2000 ≤ b.toNat) (h' : b.toNat < 0x4000) (hport : b.toNat % 8 = 2)
    (v : Byte) (s : State) : cpuWrite b v s = s := by
  rw [cpuWrite_ppu h h', hport]
  rfl

/-- A store to RAM is seen through every mirror of its cell (R76, R90). -/
theorem peek_cpuWrite_same {a b : Word} (h : SameCell a b) {s : State} (hram : s.bus.ram.wf = true) (v : Byte) :
    peek a (cpuWrite b v s) = v := by
  obtain ⟨ha, hb, hcell⟩ := h
  rw [peek_ram ha, cpuWrite_ram hb, hcell]
  exact memory_read_write_same hram _ v

/-- Settles O34: the write of each owner, and what the loads see. -/
theorem storeThenLoad : Obligations.StoreThenLoad := by
  intro a b v s
  refine ⟨fun h => cpuWrite_ram h v s, fun h h' => cpuWrite_ppu h h' v s, fun h h' => cpuWrite_apu h h' v s, rfl, rfl,
    ?ignored, fun hs h => peek_cpuWrite_same h hs.bus.ram.wf v, fun ha h => peek_cpuWrite_other ha h v s⟩
  case ignored =>
    rintro (h | ⟨h, h'⟩ | ⟨h, h', hport⟩)
    · exact cpuWrite_cart h v s
    · exact cpuWrite_unused h h' v s
    · exact cpuWrite_statusPort h h' hport v s

end Sys2Proof.Proofs
end

section
/-! The operand of a reading instruction (R117, R72), and the program memory behind the baseline mapper (R79, R546). -/

namespace Sys2Proof.Proofs

open Sys2Proof.Machine Sys2Proof.Laws

/-- Settles O11: the operand read as one CPU read, and what a CPU read leaves unchanged. -/
theorem operandReads : Obligations.OperandReads := by
  refine ⟨fun _ _ => rfl, fun m s => ?_⟩
  refine ⟨loadMem_eq m s, ?value, loadOperand_cpu _ s, sameMemory_loadOperand _ s, fun h => ?plain⟩
  case value => exact (congrArg Fetched.value (loadMem_eq m s)).trans (memRead_value _ s)
  case plain => simp only [loadOperand, loadMem_eq, memRead_plain h]

theorem cartRead_below {a : Word} (h : a.toNat < 0x8000) (c : Cartridge) : cartRead (some c) a = 0x00#8 := by
  simp (disch := omega) only [cartRead, Cartridge.cpuMapRead, if_neg]

theorem cartRead_program {a : Word} (h : 0x8000 ≤ a.toNat) (c : Cartridge) :
    cartRead (some c) a = c.prg.read (if c.prgBanks > 1 then a.toNat % 0x8000 else a.toNat % 0x4000) := by
  simp only [cartRead, Cartridge.cpuMapRead, if_pos h]

/-- Settles O56: cartridge space by the mapper, the mask of its offset being a remainder. -/
theorem mapperReads : Obligations.MapperReads := by
  intro s a ha
  rw [peek_cart ha]
  refine ⟨fun hnone => by rw [hnone]; rfl, fun c hc => ?_⟩
  rw [hc]
  refine ⟨fun h => cartRead_below h c, fun h hbanks => ?one, fun h hbanks => ?more⟩
  case one =>
    have hmask : (a &&& 0x3FFF#16).toNat = a.toNat % 0x4000 := toNat_and_lowMask a (n := 14) rfl
    rw [cartRead_program h, if_neg (Nat.not_lt.mpr hbanks), hmask]
  case more =>
    have hmask : (a &&& 0x7FFF#16).toNat = a.toNat % 0x8000 := toNat_and_lowMask a (n := 15) rfl
    rw [cartRead_program h, if_pos hbanks, hmask]

end Sys2Proof.Proofs
end

section
/-! The operations of the host (R341) keep the invariant. -/

namespace Sys2Proof.Proofs

open Sys2Proof.Machine Sys2Proof.Laws

/-- A part of an image is a memory of its size, at most. -/
theorem imageSlice_inv (image : List Byte) (start count : Nat) : Memory.Inv count (imageSlice image start count) :=
  memory_inv_ofBytes _ (List.length_take_le _ _)

/-- The CHR memory of a load: the open CHR RAM where the header names no bank, else a part of the image (R542). -/
theorem loadedChr_inv {chrRam : Memory} (h : Memory.Inv 8192 chrRam) (image : List Byte) (start banks : Nat) :
    Memory.Inv (if banks = 0 then 8192 else 8192 * banks)
      (if banks = 0 then chrRam else imageSlice image start (8192 * banks)) := by
  split
  · exact h
  · exact imageSlice_inv image _ _

/-- The extra nametable RAM of a load: there in four-screen mode only (R542). -/
theorem loadedNtExt_inv {ntExt : Memory} (h : Memory.Inv 2048 ntExt) (mode : Mirroring) :
    Memory.Inv 2048 (if mode = .fourScreen then ntExt else []) := by
  split
  · exact h
  · exact memory_inv_nil 2048

/-- A load that succeeds gives a well-formed cartridge, whatever the file holds (R542). -/
theorem loadImage_inv {file : Option (List Byte)} {chrRam ntExt : Memory} {c : Cartridge}
    (hchr : Memory.Inv 8192 chrRam) (hnt : Memory.Inv 2048 ntExt) (h : loadImage file chrRam ntExt = .ok c) :
    c.Inv := by
  unfold loadImage at h
  split at h
  · cases h
  · next image =>
    dsimp only at h
    iterate 3 (split at h; · cases h)
    split at h
    · cases h
    · next hbanks =>
      split at h
      · cases h
      · next hmapper =>
        cases h
        exact
          { prg := imageSlice_inv image _ _
            chr := loadedChr_inv hchr image _ _
            ntExt := loadedNtExt_inv hnt _
            prgBanksPos := Nat.pos_of_ne_zero hbanks
            mapper := not_not.mp hmapper }

theorem insertCartridge_inv {s : State} (h : s.Inv) (file : Option (List Byte)) {chrRam ntExt : Memory}
    (hchr : Memory.Inv 8192 chrRam) (hnt : Memory.Inv 2048 ntExt) :
    (insertCartridge file chrRam ntExt s).2.Inv := by
  unfold insertCartridge
  split
  · exact h
  · next c hload =>
    refine { h with cart := fun c' hc' => ?_ }
    cases hc'
    exact loadImage_inv hchr hnt hload

theorem setController_inv {s : State} (h : s.Inv) (pad : Pad) (v : Byte) : (setController pad v s).Inv := by
  cases pad <;> exact { h with bus := { h.bus with } }

theorem clearFrameComplete_inv {s : State} (h : s.Inv) : (clearFrameComplete s).Inv :=
  { h with ppu := { h.ppu with } }

/-- Settles O60: each operation by the lemma that it keeps the invariant. -/
theorem hostKeepsInvariant : Obligations.HostKeepsInvariant := by
  intro op s h hsized
  cases op with
  | clock => exact step_inv h
  | reset values => exact ⟨_, rfl, busReset_inv values h.bus.ram h.ppu.vram h.ppu.palette h.ppu.oam h.ppu.frame h.cart⟩
  | insertCartridge file chrRam ntExt => exact ⟨_, rfl, insertCartridge_inv h file hsized.1 hsized.2⟩
  | setController pad v => exact ⟨_, rfl, setController_inv h pad v⟩
  | cpuRead addr readOnly => exact ⟨_, rfl, cpuRead_inv h addr readOnly⟩
  | cpuWrite addr v => exact ⟨_, rfl, cpuWrite_inv h addr v⟩
  | clearFrameComplete => exact ⟨_, rfl, clearFrameComplete_inv h⟩

end Sys2Proof.Proofs
end

section
/-! The effective addresses of the memory forms (R118 to R127), by the model's own address arithmetic. -/

namespace Sys2Proof.Proofs

open Sys2Proof.Machine Sys2Proof.Laws

theorem zext16_eq_setWidth (b : Byte) : zext16 b = b.setWidth 16 := BitVec.ofNat_toNat 16 b

/-- The page of an address is its number without the low eight bits (R16). -/
theorem toNat_hiByte (w : Word) : (hiByte w).toNat = w.toNat / 256 := by
  have hpage : w.toNat / 256 < 2 ^ 8 := by omega
  exact (BitVec.toNat_ofNat _ 8).trans (Nat.mod_eq_of_lt hpage)

theorem pageDiffers_eq_decide (a b : Word) : pageDiffers a b = decide (a.toNat / 256 ≠ b.toNat / 256) := by
  rw [Bool.eq_iff_iff, pageDiffers, bne_iff_ne, decide_eq_true_iff, ← BitVec.toNat_ne_iff_ne, toNat_hiByte,
    toNat_hiByte]

theorem indexed_eq (base : Word) (index : Byte) (s : State) :
    indexed base index s =
      ⟨base + index.setWidth 16, decide ((base + index.setWidth 16).toNat / 256 ≠ base.toNat / 256), s⟩ := by
  rw [indexed, zext16_eq_setWidth, pageDiffers_eq_decide]

/-- The pointer's two bytes lie in the zero page, so that reading it changes nothing (R126, R127). -/
theorem zeroPagePointer_eq (b : Byte) (s : State) :
    zeroPagePointer b s = (wordOf (peek (b.setWidth 16) s) (peek ((b + 1#8).setWidth 16) s), s) := by
  rw [zeroPagePointer, readWord_plain (isMemory_zeroPage _) (isMemory_zeroPage _), zext16_eq_setWidth,
    zext16_eq_setWidth]

/-- Settles O10: each form by the arithmetic it shares with others: the zero-page word, the index, the pointer. -/
theorem effectiveAddresses : Obligations.EffectiveAddresses := by
  intro b w s
  refine ⟨?zp0, ?zpx, ?zpy, rfl, indexed_eq w _ s, indexed_eq w _ s, ?izx, ?izy⟩
  case zp0 | zpx | zpy => rw [resolve, zext16_eq_setWidth]
  case izx => rw [resolve, zeroPagePointer_eq]
  case izy => rw [resolve, zeroPagePointer_eq, indexed_eq]

end Sys2Proof.Proofs
end

section
/-! The decoder by the length of the opcode (R112, R113), and the opcode map's rows all well formed (R111, R130). -/

namespace Sys2Proof.Proofs

open Sys2Proof.Machine Sys2Proof.Laws

theorem memOperand_length_cases (m : MemOperand) : m.length = 2 ∨ m.length = 3 := by
  cases m <;> simp [MemOperand.length]

theorem instr_length_cases (i : Instr) : i.length = 1 ∨ i.length = 2 ∨ i.length = 3 := by
  cases i with
  | lda m | ldx m | ldy m | adc m | sbc m | and m | ora m | eor m | cmp m | cpx m | cpy m =>
    cases m with
    | imm v => exact .inr (.inl rfl)
    | mem m => exact .inr (memOperand_length_cases m)
  | sta m | stx m | sty m | bit m | inc m | dec m => exact .inr (memOperand_length_cases m)
  | asl m | lsr m | rol m | ror m =>
    cases m with
    | acc => exact .inl rfl
    | mem m => exact .inr (memOperand_length_cases m)
  | jmp _ | jsr _ => exact .inr (.inr rfl)
  | bcc _ | bcs _ | beq _ | bne _ | bmi _ | bpl _ | bvc _ | bvs _ => exact .inr (.inl rfl)
  | _ => exact .inl rfl

/-- The three lengths of an instruction (R112). -/
theorem opcodeLength_cases (op : Byte) : opcodeLength op = 1 ∨ opcodeLength op = 2 ∨ opcodeLength op = 3 :=
  instr_length_cases _

/-- Every cell of the opcode map has an operand form of its mnemonic: the row of the opcode, then its column. -/
theorem instrOf_wf (op b1 b2 : Byte) : (instrOf op b1 b2).wf = true := by
  simp only [instrOf, decodeRow0, decodeRow1, decodeRow2, decodeRow3, decodeRow4, decodeRow5, decodeRow6, decodeRow7,
    decodeRow8, decodeRow9, decodeRowA, decodeRowB, decodeRowC, decodeRowD, decodeRowE, decodeRowF]
  split <;> split <;> rfl

theorem decode_of_length_one {op : Byte} (h : opcodeLength op = 1) (rest : List Byte) :
    decode (op :: rest) = .ok (instrOf op 0#8 0#8, rest) := by
  simp only [decode, h]

theorem decode_of_length_two {op : Byte} (h : opcodeLength op = 2) (b1 : Byte) (rest : List Byte) :
    decode (op :: b1 :: rest) = .ok (instrOf op b1 0#8, rest) := by
  simp only [decode, h]

theorem decode_of_length_three {op : Byte} (h : opcodeLength op = 3) (b1 b2 : Byte) (rest : List Byte) :
    decode (op :: b1 :: b2 :: rest) = .ok (instrOf op b1 b2, rest) := by
  simp only [decode, h]

/-- What the decoder can answer with: the instruction of one, two or three bytes, as the opcode's length says. -/
theorem decode_ok_cases {bytes rest : List Byte} {i : Instr} (h : decode bytes = .ok (i, rest)) :
    (∃ op, opcodeLength op = 1 ∧ bytes = op :: rest ∧ i = instrOf op 0#8 0#8) ∨
      (∃ op b1, opcodeLength op = 2 ∧ bytes = op :: b1 :: rest ∧ i = instrOf op b1 0#8) ∨
        ∃ op b1 b2, opcodeLength op = 3 ∧ bytes = op :: b1 :: b2 :: rest ∧ i = instrOf op b1 b2 := by
  unfold decode at h
  split at h
  · cases h
  · next op _ =>
    split at h
    · next hlen => cases h; exact .inl ⟨op, hlen, rfl, rfl⟩
    · next b1 _ hlen => cases h; exact .inr (.inl ⟨op, b1, hlen, rfl, rfl⟩)
    · next b1 b2 _ hlen => cases h; exact .inr (.inr ⟨op, b1, b2, hlen, rfl, rfl⟩)
    · cases h

/-- Settles O3: the three lengths one by one, every cell of the opcode map being well formed. -/
theorem everyOpcodeDecodes : Obligations.EveryOpcodeDecodes := by
  intro op
  rcases opcodeLength_cases op with h | h | h
  · exact ⟨by omega, by omega, fun _ _ => ⟨_, instrOf_wf .., by rw [decode_of_length_one h, h]; rfl⟩⟩
  · exact ⟨by omega, by omega, fun _ _ => ⟨_, instrOf_wf .., by rw [decode_of_length_two h, h]; rfl⟩⟩
  · exact ⟨by omega, by omega, fun _ _ => ⟨_, instrOf_wf .., by rw [decode_of_length_three h, h]; rfl⟩⟩

/-- Settles O4: each byte string by the length of its opcode, the opcode map giving the instruction. -/
theorem writtenWordsDecode : Obligations.WrittenWordsDecode := by
  exact ⟨decode_of_length_two rfl _ _, decode_of_length_three rfl _ _ _, decode_of_length_two rfl _ _,
    decode_of_length_two rfl _ _, decode_of_length_two rfl _ _, decode_of_length_three rfl _ _ _,
    decode_of_length_one rfl _, decode_of_length_three rfl _ _ _, decode_of_length_two rfl _ _,
    decode_of_length_one rfl _, decode_of_length_one rfl _⟩

end Sys2Proof.Proofs
end

section
/-! The fetch as one CPU read for each byte of the instruction (R81, R110, R112), and the step that runs what it
fetched (R350). -/

namespace Sys2Proof.Proofs

open Sys2Proof.Machine Sys2Proof.Laws

theorem memRead_setPC (a w : Word) (s : State) :
    memRead a (setPC w s) = ((memRead a s).1, setPC w (memRead a s).2) := by
  simp only [setPC, memRead_withCpu, memRead_cpu]

theorem fetchByte_eq (s : State) :
    fetchByte s = ((memRead s.cpu.pc s).1, setPC (s.cpu.pc + 1#16) (memRead s.cpu.pc s).2) := by
  simp only [fetchByte, memRead_cpu]

/-- The next byte of an instruction, `PC` having been moved on to it. -/
theorem fetchByte_setPC (w : Word) (s : State) :
    fetchByte (setPC w s) = ((memRead w s).1, setPC (w + 1#16) (memRead w s).2) := by
  rw [fetchByte_eq, setPC_cpu_pc, memRead_setPC]
  rfl

theorem fetchInstr_of_length_one {s : State} (h : opcodeLength (memRead s.cpu.pc s).1 = 1) :
    fetchInstr s =
      ⟨instrOf (memRead s.cpu.pc s).1 0#8 0#8, setPC (s.cpu.pc + 1#16) (memRead s.cpu.pc s).2⟩ := by
  simp only [fetchInstr, fetchOperands, fetchByte_eq s, h, Nat.reduceLT, if_true]

theorem fetchInstr_of_length_two {s : State} (h : opcodeLength (memRead s.cpu.pc s).1 = 2) :
    let op := memRead s.cpu.pc s
    let b1 := memRead (s.cpu.pc + 1#16) op.2
    fetchInstr s = ⟨instrOf op.1 b1.1 0#8, setPC (s.cpu.pc + 2#16) b1.2⟩ := by
  simp only [fetchInstr, fetchOperands, fetchByte_eq s, fetchByte_setPC, BitVec.add_assoc, BitVec.reduceAdd, h,
    Nat.reduceLT, if_true, if_false]

theorem fetchInstr_of_length_three {s : State} (h : opcodeLength (memRead s.cpu.pc s).1 = 3) :
    let op := memRead s.cpu.pc s
    let b1 := memRead (s.cpu.pc + 1#16) op.2
    let b2 := memRead (s.cpu.pc + 2#16) b1.2
    fetchInstr s = ⟨instrOf op.1 b1.1 b2.1, setPC (s.cpu.pc + 3#16) b2.2⟩ := by
  simp only [fetchInstr, fetchOperands, fetchByte_eq s, fetchByte_setPC, BitVec.add_assoc, BitVec.reduceAdd, h,
    Nat.reduceLT, if_false]

theorem shiftOperand_next (f : Byte → Bool → ShiftResult) (m : ShiftOperand) (s : State) :
    ∃ t, shiftOperand f m s = .next t := by
  cases m <;> exact ⟨_, rfl⟩

theorem branchIf_next (c : Bool) (off : Byte) (s : State) : ∃ t, branchIf c off s = .next t := by
  cases c <;> exact ⟨_, rfl⟩

/-- Every instruction completes, in every state (R300). -/
theorem exec_next (i : Instr) (s : State) : ∃ t, exec i s = .next t := by
  cases i with
  | asl m | lsr m | rol m | ror m => exact shiftOperand_next _ m s
  | bcc off | bcs off | beq off | bne off | bmi off | bpl off | bvc off | bvs off => exact branchIf_next _ off s
  | _ => exact ⟨_, rfl⟩

/-- At a fetch the CPU slot is the run of one instruction, which completes, and the counting of a cycle (R110, R350). -/
theorem step_atFetch {s : State} (h : s.atFetch) :
    ∃ t,
      exec (fetchInstr (ppuTick s)).instr (fetchInstr (ppuTick s)).st = .next t ∧
        step s = .next (afterSlot (countCycle t)) := by
  obtain ⟨t, ht⟩ := exec_next (fetchInstr (ppuTick s)).instr (fetchInstr (ppuTick s)).st
  have hrun : runInstr (ppuTick s) = .next t := ht
  have hclock : cpuClock (ppuTick s) = .next (countCycle t) := by
    rw [cpuClock, if_pos (show (ppuTick s).cpu.cycles = 0 from h.idle), hrun]
  have hslot : cpuSlot (ppuTick s) = .next (countCycle t) := by
    rw [cpuSlot, if_pos (show (ppuTick s).bus.sysClock % 3 = 0 from h.slot),
      if_neg (show ¬(ppuTick s).bus.dma.active = true from Bool.eq_false_iff.mp h.noDma), hclock]
  exact ⟨t, ht, by rw [step, busClock, hslot]⟩

/-- Settles O6: the fetch by the opcode's length, and the step at a fetch. -/
theorem fetchReadsTheInstruction : Obligations.FetchReadsTheInstruction := by
  intro s
  refine ⟨?reads, step_atFetch⟩
  rcases opcodeLength_cases (memRead s.cpu.pc s).1 with h | h | h
  · rw [fetchInstr_of_length_one h]
    exact .inl ⟨h, decode_of_length_one h _, rfl⟩
  · rw [fetchInstr_of_length_two h]
    exact .inr (.inl ⟨h, decode_of_length_two h _ _, rfl⟩)
  · rw [fetchInstr_of_length_three h]
    exact .inr (.inr ⟨h, decode_of_length_three h _ _ _, rfl⟩)

/-- The bytes lie in memory, the first at `a`, each at the address after the one before. -/
def BytesAt (a : Word) (bytes : List Byte) (s : State) : Prop :=
  ∀ k v, bytes[k]? = some v → IsMemory (a + BitVec.ofNat 16 k) ∧ peek (a + BitVec.ofNat 16 k) s = v

/-- A CPU read of such a byte gives it and changes nothing. -/
theorem memRead_bytesAt {a : Word} {bytes : List Byte} {s : State} (h : BytesAt a bytes s) {k : Nat} {v : Byte}
    (hk : bytes[k]? = some v) : memRead (a + BitVec.ofNat 16 k) s = (v, s) := by
  obtain ⟨hmem, hv⟩ := h k v hk
  rw [memRead_plain hmem, hv]

/-- A dot of the PPU changes no byte of memory that the CPU sees. -/
theorem bytesAt_ppuTick {a : Word} {bytes : List Byte} {s : State} (h : BytesAt a bytes s) :
    BytesAt a bytes (ppuTick s) := by
  intro k v hk
  obtain ⟨hmem, hv⟩ := h k v hk
  have hdot : peek (a + BitVec.ofNat 16 k) (ppuTick s) = peek (a + BitVec.ofNat 16 k) s := peek_memory hmem rfl rfl
  exact ⟨hmem, hdot.trans hv⟩

/-- The fetch from memory is the decoder run on the bytes there, and only `PC` moves. -/
theorem fetchInstr_bytesAt {s : State} {bytes : List Byte} {i : Instr} (hdec : decode bytes = .ok (i, []))
    (h : BytesAt s.cpu.pc bytes s) :
    fetchInstr s = ⟨i, setPC (s.cpu.pc + BitVec.ofNat 16 bytes.length) s⟩ := by
  rcases decode_ok_cases hdec with ⟨op, hlen, rfl, rfl⟩ | ⟨op, b1, hlen, rfl, rfl⟩ | ⟨op, b1, b2, hlen, rfl, rfl⟩
  all_goals
    have hop : memRead s.cpu.pc s = (op, s) := by simpa using memRead_bytesAt h (k := 0) rfl
    replace hlen := (congrArg (opcodeLength ·.1) hop).trans hlen
  · rw [fetchInstr_of_length_one hlen, hop]
    rfl
  · have hb1 : memRead (s.cpu.pc + 1#16) s = (b1, s) := memRead_bytesAt h (k := 1) rfl
    simp only [fetchInstr_of_length_two hlen, hop, hb1]
    rfl
  · have hb1 : memRead (s.cpu.pc + 1#16) s = (b1, s) := memRead_bytesAt h (k := 1) rfl
    have hb2 : memRead (s.cpu.pc + 2#16) s = (b2, s) := memRead_bytesAt h (k := 2) rfl
    simp only [fetchInstr_of_length_three hlen, hop, hb1, hb2]
    rfl

/-- Settles O5: the step at a fetch, its fetch being from memory that the dot before it leaves alone. -/
theorem stepRunsDecodedInstruction : Obligations.StepRunsDecodedInstruction := by
  intro s i bytes hfetch hdec hbytes
  have hinstr : fetchInstr (ppuTick s) = ⟨i, setPC (s.cpu.pc + BitVec.ofNat 16 bytes.length) (ppuTick s)⟩ :=
    fetchInstr_bytesAt hdec (bytesAt_ppuTick hbytes)
  simpa only [hinstr] using step_atFetch hfetch

end Sys2Proof.Proofs
end

section
/-! The lines of the rules' tables of encodings (R111 to R114, R128): what the model answers for the operand of a line, and
the three shapes of an instruction, a read, a store and a computation on registers, as the rules state them. -/

namespace Sys2Proof.Proofs

open Sys2Proof.Machine Sys2Proof.Laws

/-! ## Encodings -/

theorem encode_of_opcode {i : Instr} {op : Byte} (hop : i.opcode? = some op) : encode i = op :: i.operandBytes := by
  simp only [encode, hop]

/-- A form with a word: its operand bytes are the word's two bytes, low byte first (R114). -/
theorem encode_of_word {i : Instr} {op lo hi : Byte} (hop : i.opcode? = some op)
    (hbytes : i.operandBytes = wordBytes (wordOf lo hi)) : encode i = [op, lo, hi] := by
  rw [encode_of_opcode hop, hbytes, wordBytes, loByte_wordOf, hiByte_wordOf]

/-- The decoder reads a well-formed instruction back from its bytes, by the number of its operand bytes (R113). -/
theorem decode_encode_append {i : Instr} (h : EncodeDecode.Statement i) (hwf : i.wf = true) (rest : List Byte) :
    decode (encode i ++ rest) = .ok (i, rest) := by
  obtain ⟨op, hop, hlen, hcount, hinstr⟩ := h hwf
  rw [encode_of_opcode hop]
  have hcases := instr_length_cases i
  rw [← hcount] at hlen hcases
  generalize i.operandBytes = bytes at hlen hcases hinstr
  rw [← hinstr]
  match bytes, hcases with
  | [], _ => exact decode_of_length_one hlen rest
  | [b1], _ => exact decode_of_length_two hlen b1 rest
  | [b1, b2], _ => exact decode_of_length_three hlen b1 b2 rest

theorem encodes_of_statement {i : Instr} {bytes : List Byte} (h : EncodeDecode.Statement i) (hwf : i.wf = true)
    (henc : encode i = bytes) : Encodes i bytes :=
  ⟨henc, henc ▸ decode_encode_append h hwf⟩

/-! ## The lines of a table -/

/-- What a line says is what the model has: its operand is a form of the mnemonic, its bytes are the encoding, its base
cycles are those of the form, and it has the crossing cycle where the form has. -/
structure IsRow {α : Type} (f : α → Instr) (cycles : α → Nat) (crosses : α → Bool) (r : Row α) : Prop where
  wf : (f r.operand).wf = true
  bytes : encode (f r.operand) = r.bytes
  base : r.base = cycles r.operand
  plus : r.plus = crosses r.operand

/-- The reading forms that can report a page crossing (R123, R124, R127). -/
def readCrosses : ReadOperand → Bool
  | .mem (.abx _) | .mem (.aby _) | .mem (.izy _) => true
  | _ => false

theorem loadOperand_crossed_eq_false {m : ReadOperand} (h : readCrosses m = false) (s : State) :
    (loadOperand m s).crossed = false := by
  cases m with
  | imm _ => rfl
  | mem m =>
    cases m with
    | zp0 _ | zpx _ | zpy _ | abs _ | izx _ => rfl
    | abx _ | aby _ | izy _ => cases h

/-- The crossing cycle of a table's line is the one that the model adds. -/
theorem readCrosses_extra (m : ReadOperand) (s : State) :
    (if readCrosses m && (loadOperand m s).crossed then 1 else 0) = crossExtra (loadOperand m s).crossed := by
  cases h : readCrosses m with
  | false => rw [loadOperand_crossed_eq_false h]; rfl
  | true => rfl

/-- The table of an accumulator instruction (R150, R170 to R174, R176), from the mnemonic's row of opcodes. -/
theorem isRow_accumulatorRows {f : ReadOperand → Instr} {imm zp0 zpx abs abx aby izx izy : Byte}
    (hwf : ∀ m, m.isAccumulatorForm = true → (f m).wf = true)
    (hop : ∀ m, (f m).opcode? =
      m.opcodeIn imm ⟨some zp0, some zpx, none, some abs, some abx, some aby, some izx, some izy⟩)
    (hbytes : ∀ m, (f m).operandBytes = m.bytes) (b lo hi : Byte) :
    ∀ r ∈ accumulatorRows imm zp0 zpx abs abx aby izx izy b lo hi, IsRow f readCycles readCrosses r := by
  have byteRow : ∀ {m op b}, m.isAccumulatorForm = true → (f m).opcode? = some op → m.bytes = [b] →
      encode (f m) = [op, b] := fun _ h hb => by rw [encode_of_opcode h, hbytes, hb]
  simp only [accumulatorRows, List.forall_mem_cons]
  exact ⟨⟨hwf _ rfl, byteRow rfl (hop _) rfl, rfl, rfl⟩, ⟨hwf _ rfl, byteRow rfl (hop _) rfl, rfl, rfl⟩,
    ⟨hwf _ rfl, byteRow rfl (hop _) rfl, rfl, rfl⟩, ⟨hwf _ rfl, encode_of_word (hop _) (hbytes _), rfl, rfl⟩,
    ⟨hwf _ rfl, encode_of_word (hop _) (hbytes _), rfl, rfl⟩,
    ⟨hwf _ rfl, encode_of_word (hop _) (hbytes _), rfl, rfl⟩, ⟨hwf _ rfl, byteRow rfl (hop _) rfl, rfl, rfl⟩,
    ⟨hwf _ rfl, byteRow rfl (hop _) rfl, rfl, rfl⟩, List.forall_mem_nil _⟩

/-! ## The three shapes of an instruction -/

/-- An instruction that reads its operand and then changes CPU registers alone. -/
theorem readingInstr_of_readThen {α : Type} {form : α → ReadOperand} {f : α → Instr} {rows : List (Row α)}
    {effect : Byte → Cpu → Cpu → Prop} {update : Byte → State → State} (hstatement : ∀ x, EncodeDecode.Statement (f x))
    (hrows : ∀ r ∈ rows, IsRow f (readCycles ∘ form) (readCrosses ∘ form) r)
    (hexec : ∀ x s, exec (f x) s = readThen (form x) update s)
    (hupdate : ∀ v s, ∃ c, effect v s.cpu c ∧ update v s = { s with cpu := c }) : ReadingInstr form f rows effect := by
  intro r hr
  obtain ⟨hwf, hbytes, hbase, hplus⟩ := hrows r hr
  refine ⟨encodes_of_statement (hstatement _) hwf hbytes, fun s => ?_⟩
  obtain ⟨c, heffect, hc⟩ := hupdate (loadOperand (form r.operand) s).value (loadOperand (form r.operand) s).st
  rw [loadOperand_cpu] at heffect
  refine ⟨c, heffect, ?_, sameMemory_loadOperand _ s⟩
  rw [hexec, readThen, hc, hbase, hplus]
  simp only [Function.comp_apply, readCrosses_extra]
  rfl

/-- A store of a CPU register. -/
theorem storeInstr_of_storeTo {f : MemOperand → Instr} {rows : List (Row MemOperand)} {value : Cpu → Byte}
    (hstatement : ∀ m, EncodeDecode.Statement (f m)) (hrows : ∀ r ∈ rows, IsRow f storeCycles (fun _ => false) r)
    (hexec : ∀ m s, exec (f m) s = storeTo m (value s.cpu) s) : StoreInstr f rows value := by
  intro r hr
  obtain ⟨hwf, hbytes, hbase, -⟩ := hrows r hr
  refine ⟨encodes_of_statement (hstatement _) hwf hbytes, fun s => ⟨_, ?_, rfl, ?_⟩⟩
  · simp only [hexec, storeTo, complete, setCycles, memWrite_cpu, resolve_st, hbase]
    rfl
  · rw [resolve_st]
    exact storesOnlyAt_withCpu (storesOnlyAt_cpuWrite _ _ s) _

/-- A one-byte instruction that changes CPU registers alone. -/
theorem registerInstr_of_complete {i : Instr} {op : Byte} {n : Nat} {effect : Cpu → Cpu → Prop} {update : State → State}
    (hstatement : EncodeDecode.Statement i) (hwf : i.wf = true) (hbytes : encode i = [op])
    (hexec : ∀ s, exec i s = complete n (update s))
    (hupdate : ∀ s, ∃ c, effect s.cpu c ∧ update s = { s with cpu := c }) : RegisterInstr i op n effect := by
  refine ⟨encodes_of_statement hstatement hwf hbytes, fun s => ?_⟩
  obtain ⟨c, heffect, hc⟩ := hupdate s
  exact ⟨c, heffect, by rw [hexec, hc]; rfl⟩

end Sys2Proof.Proofs
end

section
/-! Load, store and transfer (R150 to R161): each mnemonic's table and meaning, put into the shape that it has. -/

namespace Sys2Proof.Proofs

open Sys2Proof.Machine Sys2Proof.Laws

/-- Settles O12: a load is a read, then the register and `setNZ` of the value read. -/
theorem loadResults : Obligations.LoadResults := by
  intro b lo hi
  refine ⟨readingInstr_of_readThen EncodeDecode.lda ?lda
      (update := fun v s => setNZOf v (setA v s)) (fun _ _ => rfl) ?setA,
    readingInstr_of_readThen EncodeDecode.ldx ?ldx
      (update := fun v s => setNZOf v (setX v s)) (fun _ _ => rfl) ?setX,
    readingInstr_of_readThen EncodeDecode.ldy ?ldy
      (update := fun v s => setNZOf v (setY v s)) (fun _ _ => rfl) ?setY⟩
  case lda => exact isRow_accumulatorRows (fun _ => id) (fun _ => rfl) (fun _ => rfl) b lo hi
  case ldx | ldy =>
    simp only [List.forall_mem_cons]
    exact ⟨⟨rfl, rfl, rfl, rfl⟩, ⟨rfl, rfl, rfl, rfl⟩, ⟨rfl, rfl, rfl, rfl⟩, ⟨rfl, encode_of_word rfl rfl, rfl, rfl⟩,
      ⟨rfl, encode_of_word rfl rfl, rfl, rfl⟩, List.forall_mem_nil _⟩
  case setA | setX | setY => exact fun _ _ => ⟨_, ⟨_, setsNZ_setNZ _ _, rfl⟩, rfl⟩

/-- Settles O13: a store is one write at the resolved address, and resolving changes nothing. -/
theorem storeResults : Obligations.StoreResults := by
  intro b lo hi
  refine ⟨storeInstr_of_storeTo EncodeDecode.sta ?sta fun _ _ => rfl,
    storeInstr_of_storeTo EncodeDecode.stx ?stx fun _ _ => rfl,
    storeInstr_of_storeTo EncodeDecode.sty ?sty fun _ _ => rfl⟩
  case sta =>
    simp only [List.forall_mem_cons]
    exact ⟨⟨rfl, rfl, rfl, rfl⟩, ⟨rfl, rfl, rfl, rfl⟩, ⟨rfl, encode_of_word rfl rfl, rfl, rfl⟩,
      ⟨rfl, encode_of_word rfl rfl, rfl, rfl⟩, ⟨rfl, encode_of_word rfl rfl, rfl, rfl⟩, ⟨rfl, rfl, rfl, rfl⟩,
      ⟨rfl, rfl, rfl, rfl⟩, List.forall_mem_nil _⟩
  case stx | sty =>
    simp only [List.forall_mem_cons]
    exact ⟨⟨rfl, rfl, rfl, rfl⟩, ⟨rfl, rfl, rfl, rfl⟩, ⟨rfl, encode_of_word rfl rfl, rfl, rfl⟩, List.forall_mem_nil _⟩

/-- Settles O14: a transfer is a register and, but for `TXS`, `setNZ` of the value moved. -/
theorem transferResults : Obligations.TransferResults := by
  refine ⟨registerInstr_of_complete EncodeDecode.tax rfl rfl (fun _ => rfl) ?tax,
    registerInstr_of_complete EncodeDecode.tay rfl rfl (fun _ => rfl) ?tay,
    registerInstr_of_complete EncodeDecode.txa rfl rfl (fun _ => rfl) ?txa,
    registerInstr_of_complete EncodeDecode.tya rfl rfl (fun _ => rfl) ?tya,
    registerInstr_of_complete EncodeDecode.tsx rfl rfl (fun _ => rfl) ?tsx,
    registerInstr_of_complete EncodeDecode.txs rfl rfl (fun _ => rfl) ?txs⟩
  case tax | tay | txa | tya | tsx => exact fun _ => ⟨_, ⟨_, setsNZ_setNZ _ _, rfl⟩, rfl⟩
  case txs => exact fun _ => ⟨_, rfl, rfl⟩

end Sys2Proof.Proofs
end

section
/-! The bits of `P` after a flag write of 41 or 42 (R13, R25): the flag written, the arithmetic flags it keeps, and the
bits outside the masks written. -/

namespace Sys2Proof.Proofs

open Sys2Proof.Machine Sys2Proof.Laws

variable (b : Bool) (v p : Byte)

@[simp] theorem flagC_setFlag_maskC : flagC (setFlag maskC b p) = b := getLsbD_setFlag maskC b p 0
@[simp] theorem flagZ_setFlag_maskZ : flagZ (setFlag maskZ b p) = b := getLsbD_setFlag maskZ b p 1
@[simp] theorem flagV_setFlag_maskV : flagV (setFlag maskV b p) = b := getLsbD_setFlag maskV b p 6
@[simp] theorem flagN_setFlag_maskN : flagN (setFlag maskN b p) = b := getLsbD_setFlag maskN b p 7

@[simp] theorem flagC_setFlag_maskV : flagC (setFlag maskV b p) = flagC p := getLsbD_setFlag maskV b p 0
@[simp] theorem flagZ_setFlag_maskV : flagZ (setFlag maskV b p) = flagZ p := getLsbD_setFlag maskV b p 1
@[simp] theorem flagN_setFlag_maskV : flagN (setFlag maskV b p) = flagN p := getLsbD_setFlag maskV b p 7
@[simp] theorem flagC_setFlag_maskZ : flagC (setFlag maskZ b p) = flagC p := getLsbD_setFlag maskZ b p 0
@[simp] theorem flagV_setFlag_maskZ : flagV (setFlag maskZ b p) = flagV p := getLsbD_setFlag maskZ b p 6
@[simp] theorem flagC_setFlag_maskN : flagC (setFlag maskN b p) = flagC p := getLsbD_setFlag maskN b p 0
@[simp] theorem flagZ_setFlag_maskN : flagZ (setFlag maskN b p) = flagZ p := getLsbD_setFlag maskN b p 1
@[simp] theorem flagV_setFlag_maskN : flagV (setFlag maskN b p) = flagV p := getLsbD_setFlag maskN b p 6

@[simp] theorem flagC_setNZ : flagC (setNZ v p) = flagC p := by
  rw [setNZ, flagC_setFlag_maskN, flagC_setFlag_maskZ]

@[simp] theorem flagV_setNZ : flagV (setNZ v p) = flagV p := by
  rw [setNZ, flagV_setFlag_maskN, flagV_setFlag_maskZ]

@[simp] theorem flagZ_setNZ : flagZ (setNZ v p) = decide (v = 0#8) := (setsNZ_setNZ v p).zero
@[simp] theorem flagN_setNZ : flagN (setNZ v p) = v.msb := (setsNZ_setNZ v p).negative

variable {mask keep : Byte}

/-- A flag write keeps the bits outside its mask. -/
theorem setFlag_and_of_disjoint (h : mask &&& keep = 0#8) : setFlag mask b p &&& keep = p &&& keep := by
  apply BitVec.eq_of_getLsbD_eq
  intro i _
  have hi : (mask.getLsbD i && keep.getLsbD i) = false := by rw [← BitVec.getLsbD_and, h, BitVec.getLsbD_zero]
  rw [BitVec.getLsbD_and, BitVec.getLsbD_and, getLsbD_setFlag]
  split
  · next hm =>
    rw [hm, Bool.true_and] at hi
    rw [hi, Bool.and_false, Bool.and_false]
  · rfl

theorem setNZ_and_of_disjoint (hn : maskN &&& keep = 0#8) (hz : maskZ &&& keep = 0#8) :
    setNZ v p &&& keep = p &&& keep := by
  rw [setNZ, setFlag_and_of_disjoint _ _ hn, setFlag_and_of_disjoint _ _ hz]

/-- A carry, then `setNZ`: the flags of the compares and of the shifts (R176 to R178, R190 to R193). -/
theorem setsCNZ_setNZ_setFlag : SetsCNZ b v p (setNZ v (setFlag maskC b p)) where
  carry := by rw [flagC_setNZ, flagC_setFlag_maskC]
  zero := flagZ_setNZ _ _
  negative := flagN_setNZ _ _
  others := by rw [setNZ_and_of_disjoint _ _ rfl rfl, setFlag_and_of_disjoint _ _ rfl]

/-- `BIT` writes Z, N and V, and no other bit (R175). -/
theorem setBitFlags_flags (a m p : Byte) :
    flagZ (setBitFlags a m p) = decide (a &&& m = 0#8) ∧ flagN (setBitFlags a m p) = m.getLsbD 7 ∧
      flagV (setBitFlags a m p) = m.getLsbD 6 ∧ setBitFlags a m p &&& 0x3D#8 = p &&& 0x3D#8 := by
  refine ⟨?zero, ?negative, flagV_setFlag_maskV _ _, ?others⟩
  case zero => rw [setBitFlags, flagZ_setFlag_maskV, flagZ_setFlag_maskN, flagZ_setFlag_maskZ]; rfl
  case negative => rw [setBitFlags, flagN_setFlag_maskV, flagN_setFlag_maskN]
  case others =>
    rw [setBitFlags, setFlag_and_of_disjoint _ _ rfl, setFlag_and_of_disjoint _ _ rfl, setFlag_and_of_disjoint _ _ rfl]

/-- The model compares bytes as numbers: C of a compare is the order of bytes. -/
theorem setsCNZ_setCompareFlags (r m p : Byte) : SetsCNZ (decide (m ≤ r)) (r - m) p (setCompareFlags r m p) :=
  setsCNZ_setNZ_setFlag _ _ _

end Sys2Proof.Proofs
end

section
/-! The binary adder (R170), and the subtraction that is the adder on the complemented operand (R171), by integers and
signs. -/

namespace Sys2Proof.Proofs

open Sys2Proof.Machine Sys2Proof.Laws

theorem and_signBit_ne_zero (v : Byte) : (v &&& 0x80#8 != 0#8) = v.msb := by
  have h : v &&& 0x80#8 = if v.msb then 0x80#8 else 0#8 := BitVec.and_twoPow v 7
  rw [h]
  cases v.msb <;> rfl

variable (a m : Byte) (c : Bool)

theorem addWithCarry_value :
    (addWithCarry a m c).value = BitVec.ofNat 8 (a.toNat + m.toNat + if c then 1 else 0) := by
  cases c <;> rfl

theorem addWithCarry_carry :
    (addWithCarry a m c).carry = decide (0xFF < a.toNat + m.toNat + if c then 1 else 0) := by
  cases c <;> rfl

/-- The masks of the overflow rule are a comparison of signs. -/
theorem addWithCarry_overflow :
    (addWithCarry a m c).overflow = (a.msb == m.msb && (addWithCarry a m c).value.msb != a.msb) := by
  have h : (addWithCarry a m c).overflow = (~~~(a ^^^ m) &&& (a ^^^ (addWithCarry a m c).value)).msb :=
    and_signBit_ne_zero _
  rw [h, BitVec.msb_and, BitVec.msb_not, BitVec.msb_xor, BitVec.msb_xor]
  cases a.msb <;> cases m.msb <;> simp

theorem subWithBorrow_eq : subWithBorrow a m c = addWithCarry a (~~~m) c :=
  congrArg (addWithCarry a · c) BitVec.xor_allOnes

theorem subWithBorrow_value :
    (subWithBorrow a m c).value = BitVec.ofInt 8 ((a.toNat : Int) - m.toNat - (if c then 0 else 1 : Nat)) := by
  rw [subWithBorrow_eq, addWithCarry_value, BitVec.toNat_not]
  have hm := m.isLt
  apply BitVec.eq_of_toNat_eq
  rw [BitVec.toNat_ofNat, BitVec.toNat_ofInt]
  split <;> omega

theorem subWithBorrow_carry :
    (subWithBorrow a m c).carry = decide (m.toNat + (if c then 0 else 1) ≤ a.toNat) := by
  rw [subWithBorrow_eq, addWithCarry_carry, BitVec.toNat_not]
  have hm := m.isLt
  apply decide_eq_decide.mpr
  split <;> omega

theorem subWithBorrow_overflow :
    (subWithBorrow a m c).overflow = (a.msb != m.msb && (subWithBorrow a m c).value.msb != a.msb) := by
  rw [subWithBorrow_eq, addWithCarry_overflow, BitVec.msb_not]
  cases a.msb <;> cases m.msb <;> rfl

variable (r : AddResult) (p : Byte)

@[simp] theorem flagC_setAddFlags : flagC (setAddFlags r p) = r.carry := by
  rw [setAddFlags, flagC_setNZ, flagC_setFlag_maskV, flagC_setFlag_maskC]

@[simp] theorem flagV_setAddFlags : flagV (setAddFlags r p) = r.overflow := by
  rw [setAddFlags, flagV_setNZ, flagV_setFlag_maskV]

@[simp] theorem flagZ_setAddFlags : flagZ (setAddFlags r p) = decide (r.value = 0#8) := flagZ_setNZ _ _

@[simp] theorem flagN_setAddFlags : flagN (setAddFlags r p) = r.value.msb := flagN_setNZ _ _

/-- I, D, B and U are no flags of the adder. -/
theorem setAddFlags_others : setAddFlags r p &&& 0x3C#8 = p &&& 0x3C#8 := by
  rw [setAddFlags, setNZ_and_of_disjoint _ _ rfl rfl, setFlag_and_of_disjoint _ _ rfl, setFlag_and_of_disjoint _ _ rfl]

end Sys2Proof.Proofs
end

section
/-! Arithmetic, logic and compare (R170 to R178): each mnemonic is a read and then one flag computation. -/

namespace Sys2Proof.Proofs

open Sys2Proof.Machine Sys2Proof.Laws

/-- Settles O15: the adder's value, carry and overflow are those of the exact sum. -/
theorem addWithCarryResult : Obligations.AddWithCarryResult := by
  intro b lo hi
  refine readingInstr_of_readThen EncodeDecode.adc
    (isRow_accumulatorRows (fun _ => id) (fun _ => rfl) (fun _ => rfl) b lo hi)
    (update := fun v s => applyAdd (addWithCarry s.cpu.a v (flagC s.cpu.p)) s) (fun _ _ => rfl) fun m s =>
    ⟨_, ⟨_, _, _, rfl, addWithCarry_value _ _ _, rfl, ?carry, ?overflow, flagZ_setAddFlags _ _,
      flagN_setAddFlags _ _, setAddFlags_others _ _⟩, rfl⟩
  case carry => rw [flagC_setAddFlags, addWithCarry_carry]
  case overflow => rw [flagV_setAddFlags, addWithCarry_overflow]

/-- Settles O16: the adder on the complement gives the difference, the borrow and the signed overflow. -/
theorem subtractWithBorrowResult : Obligations.SubtractWithBorrowResult := by
  intro b lo hi
  refine readingInstr_of_readThen EncodeDecode.sbc
    (isRow_accumulatorRows (fun _ => id) (fun _ => rfl) (fun _ => rfl) b lo hi)
    (update := fun v s => applyAdd (subWithBorrow s.cpu.a v (flagC s.cpu.p)) s) (fun _ _ => rfl) fun m s =>
    ⟨_, ⟨_, _, _, rfl, subWithBorrow_value _ _ _, rfl, ?carry, ?overflow, flagZ_setAddFlags _ _,
      flagN_setAddFlags _ _, setAddFlags_others _ _⟩, rfl⟩
  case carry => rw [flagC_setAddFlags, subWithBorrow_carry]
  case overflow => rw [flagV_setAddFlags, subWithBorrow_overflow]

/-- Settles O17: a logic instruction is a read, then `A` and `setNZ` of the result. -/
theorem logicResults : Obligations.LogicResults := by
  intro b lo hi
  refine ⟨readingInstr_of_readThen EncodeDecode.and ?and
      (update := fun v s => applyLogic (s.cpu.a &&& v) s) (fun _ _ => rfl) ?setAnd,
    readingInstr_of_readThen EncodeDecode.ora ?ora
      (update := fun v s => applyLogic (s.cpu.a ||| v) s) (fun _ _ => rfl) ?setOr,
    readingInstr_of_readThen EncodeDecode.eor ?eor
      (update := fun v s => applyLogic (s.cpu.a ^^^ v) s) (fun _ _ => rfl) ?setXor⟩
  case and | ora | eor => exact isRow_accumulatorRows (fun _ => id) (fun _ => rfl) (fun _ => rfl) b lo hi
  case setAnd | setOr | setXor => exact fun _ _ => ⟨_, ⟨_, setsNZ_setNZ _ _, rfl⟩, rfl⟩

/-- Settles O18: `BIT` and the compares are a read, then flags alone. -/
theorem compareResults : Obligations.CompareResults := by
  intro b lo hi
  refine ⟨readingInstr_of_readThen EncodeDecode.bit ?bit
      (update := fun v s => setP (setBitFlags s.cpu.a v s.cpu.p) s) (fun _ _ => rfl) ?bitFlags,
    readingInstr_of_readThen EncodeDecode.cmp ?cmp
      (update := fun v s => applyCompare s.cpu.a v s) (fun _ _ => rfl) ?compareA,
    readingInstr_of_readThen EncodeDecode.cpx ?cpx
      (update := fun v s => applyCompare s.cpu.x v s) (fun _ _ => rfl) ?compareX,
    readingInstr_of_readThen EncodeDecode.cpy ?cpy
      (update := fun v s => applyCompare s.cpu.y v s) (fun _ _ => rfl) ?compareY⟩
  case bit =>
    simp only [List.forall_mem_cons]
    exact ⟨⟨rfl, rfl, rfl, rfl⟩, ⟨rfl, encode_of_word rfl rfl, rfl, rfl⟩, List.forall_mem_nil _⟩
  case cmp => exact isRow_accumulatorRows (fun _ => id) (fun _ => rfl) (fun _ => rfl) b lo hi
  case cpx | cpy =>
    simp only [indexCompareRows, List.forall_mem_cons]
    exact ⟨⟨rfl, rfl, rfl, rfl⟩, ⟨rfl, rfl, rfl, rfl⟩, ⟨rfl, encode_of_word rfl rfl, rfl, rfl⟩, List.forall_mem_nil _⟩
  case bitFlags => exact fun _ _ => ⟨_, ⟨_, rfl, setBitFlags_flags _ _ _⟩, rfl⟩
  case compareA | compareX | compareY => exact fun _ _ => ⟨_, ⟨_, setsCNZ_setCompareFlags _ _ _, rfl⟩, rfl⟩

end Sys2Proof.Proofs
end

section
/-! The read-modify-write shape (R83, R111): one read, one write and the status, as the rules of 42 state it, and the
table of encodings that its six mnemonics share. -/

namespace Sys2Proof.Proofs

open Sys2Proof.Machine Sys2Proof.Laws

/-- The memory table of a read-modify-write instruction (R190 to R195), from the mnemonic's row of opcodes. -/
theorem isRow_modifyRows {f : MemOperand → Instr} {zp0 zpx abs abx : Byte}
    (hwf : ∀ m, m.isModifyForm = true → (f m).wf = true)
    (hop : ∀ m, (f m).opcode? = m.opcodeIn ⟨some zp0, some zpx, none, some abs, some abx, none, none, none⟩)
    (hbytes : ∀ m, (f m).operandBytes = m.bytes) (b lo hi : Byte) :
    ∀ r ∈ modifyRows zp0 zpx abs abx b lo hi, IsRow f modifyCycles (fun _ => false) r := by
  have byteRow : ∀ {m op}, (f m).opcode? = some op → m.bytes = [b] → encode (f m) = [op, b] := fun h hb => by
    rw [encode_of_opcode h, hbytes, hb]
  simp only [modifyRows, List.forall_mem_cons]
  exact ⟨⟨hwf _ rfl, byteRow (hop _) rfl, rfl, rfl⟩, ⟨hwf _ rfl, byteRow (hop _) rfl, rfl, rfl⟩,
    ⟨hwf _ rfl, encode_of_word (hop _) (hbytes _), rfl, rfl⟩,
    ⟨hwf _ rfl, encode_of_word (hop _) (hbytes _), rfl, rfl⟩, List.forall_mem_nil _⟩

/-- A read of an address and then a write there change no other byte, and no device where the address is memory. -/
theorem storesOnlyAt_cpuWrite_memRead (ea : Word) (v : Byte) (s : State) :
    StoresOnlyAt ea s (cpuWrite ea v (memRead ea s).2) where
  others a ha h := (peek_cpuWrite_other ha h v _).trans ((sameMemory_memRead ea s).bytes a ha)
  plain h := by
    rw [memRead_plain h]
    exact cpuWrite_plain h v s

/-- A read-modify-write reads and writes the resolved address, and changes `P` and the cycle count of the CPU. -/
theorem modifyMem_eq (m : MemOperand) (g : Byte → Byte → Byte × Byte) (s : State) :
    let read := memRead (resolve m s).ea s
    modifyMem m g s =
      .next
        { cpuWrite (resolve m s).ea (g read.1 s.cpu.p).1 read.2 with
          cpu := { s.cpu with p := (g read.1 s.cpu.p).2, cycles := modifyCycles m } } := by
  simp only [modifyMem, complete, setCycles, setP, memWrite_withCpu, memRead_cpu, resolve_st]
  rfl

/-- A read-modify-write instruction in memory. -/
theorem modifyInstr_of_modifyMem {f : MemOperand → Instr} {rows : List (Row MemOperand)}
    {effect : Byte → Byte → Byte → Byte → Prop} {g : Byte → Byte → Byte × Byte}
    (hstatement : ∀ m, EncodeDecode.Statement (f m)) (hrows : ∀ r ∈ rows, IsRow f modifyCycles (fun _ => false) r)
    (hexec : ∀ m s, exec (f m) s = modifyMem m g s) (heffect : ∀ v p, effect v p (g v p).1 (g v p).2) :
    ModifyInstr f rows effect := by
  intro r hr
  obtain ⟨hwf, hbytes, hbase, -⟩ := hrows r hr
  refine ⟨encodes_of_statement (hstatement _) hwf hbytes, fun s => ⟨_, _, _, heffect _ _, ?_, rfl, ?_⟩⟩
  · rw [hexec, modifyMem_eq, hbase, resolve_st]
  · rw [resolve_st]
    exact storesOnlyAt_withCpu (storesOnlyAt_cpuWrite_memRead _ _ s) _

end Sys2Proof.Proofs
end

section
/-! Shift and rotate (R190 to R193): the results of the rotations as numbers, and the two forms of one unit, `A` and
memory. -/

namespace Sys2Proof.Proofs

open Sys2Proof.Machine Sys2Proof.Laws

/-- The old carry enters the bit that the shift has cleared, so the two parts add (R192). -/
theorem rotateLeft_eq (m : Byte) (c : Bool) :
    rotateLeft m c = ⟨BitVec.ofNat 8 (m.toNat * 2 + if c then 1 else 0), m.getLsbD 7⟩ := by
  have hdisjoint : m <<< 1 &&& bitByte c = 0#8 := by
    ext i
    cases c <;> cases i <;> simp [bitByte]
  rw [rotateLeft, ← BitVec.add_eq_or_of_and_eq_zero _ _ hdisjoint]
  congr 1
  apply BitVec.eq_of_toNat_eq
  cases c <;> simp [bitByte, Nat.shiftLeft_eq]

/-- The old carry enters the bit that the shift has cleared, so the two parts add (R193). -/
theorem rotateRight_eq (m : Byte) (c : Bool) :
    rotateRight m c = ⟨BitVec.ofNat 8 (m.toNat / 2 + if c then 128 else 0), m.getLsbD 0⟩ := by
  have hdisjoint : m >>> 1 &&& bitByte c <<< 7 = 0#8 := by
    ext i
    by_cases h : i < 7
    · simp [h]
    · simp [BitVec.getLsbD_of_ge m (1 + i) (by omega)]
  rw [rotateRight, ← BitVec.add_eq_or_of_and_eq_zero _ _ hdisjoint]
  congr 1
  apply BitVec.eq_of_toNat_eq
  rw [BitVec.toNat_add, BitVec.toNat_ushiftRight, Nat.shiftRight_eq_div_pow, BitVec.toNat_ofNat]
  cases c <;> rfl

section Unit

variable {f : ShiftOperand → Instr} {unit : Byte → Bool → ShiftResult} {value : Byte → Byte → Byte}
  {carry : Byte → Bool} (hstatement : ∀ m, EncodeDecode.Statement (f m))
  (hexec : ∀ m s, exec (f m) s = shiftOperand unit m s)
  (hunit : ∀ m p, unit m (flagC p) = ⟨value m p, carry m⟩)

include hstatement hexec hunit

/-- The form `ACC` of a unit (R116). -/
theorem registerInstr_of_shiftOperand {op : Byte} (hwf : (f .acc).wf = true) (hbytes : encode (f .acc) = [op]) :
    RegisterInstr (f .acc) op 2 fun c c' =>
      ∃ p, SetsCNZ (carry c.a) (value c.a c.p) c.p p ∧ c' = { c with a := value c.a c.p, p := p } := by
  refine registerInstr_of_complete (hstatement .acc) hwf hbytes (hexec .acc) fun s =>
    ⟨_, ⟨_, setsCNZ_setNZ_setFlag _ _ _, rfl⟩, ?_⟩
  rw [hunit]
  rfl

/-- The memory forms of a unit: a read-modify-write. -/
theorem modifyInstr_of_shiftOperand {rows : List (Row MemOperand)}
    (hrows : ∀ r ∈ rows, IsRow (fun m => f (.mem m)) modifyCycles (fun _ => false) r) :
    ModifyInstr (fun m => f (.mem m)) rows fun m p v p' => v = value m p ∧ SetsCNZ (carry m) v p p' := by
  refine modifyInstr_of_modifyMem (g := fun v p => ((unit v (flagC p)).value, setShiftFlags (unit v (flagC p)) p))
    (fun m => hstatement (.mem m)) hrows (fun m => hexec (.mem m)) fun v p => ?_
  dsimp only
  rw [hunit]
  exact ⟨rfl, setsCNZ_setNZ_setFlag _ _ _⟩

end Unit

/-- Settles O19: each mnemonic is one unit, and its two forms are the two forms of a unit. -/
theorem shiftResults : Obligations.ShiftResults := by
  have shl : ∀ m p, shiftLeft m (flagC p) = ⟨m <<< 1, m.getLsbD 7⟩ := fun _ _ => rfl
  have shr : ∀ m p, shiftRight m (flagC p) = ⟨m >>> 1, m.getLsbD 0⟩ := fun _ _ => rfl
  have rol := fun m p => rotateLeft_eq m (flagC p)
  have ror := fun m p => rotateRight_eq m (flagC p)
  refine ⟨registerInstr_of_shiftOperand EncodeDecode.asl (fun _ _ => rfl) shl rfl rfl,
    registerInstr_of_shiftOperand EncodeDecode.lsr (fun _ _ => rfl) shr rfl rfl,
    registerInstr_of_shiftOperand EncodeDecode.rol (fun _ _ => rfl) rol rfl rfl,
    registerInstr_of_shiftOperand EncodeDecode.ror (fun _ _ => rfl) ror rfl rfl, fun b lo hi =>
    ⟨modifyInstr_of_shiftOperand EncodeDecode.asl (fun _ _ => rfl) shl ?asl,
      modifyInstr_of_shiftOperand EncodeDecode.lsr (fun _ _ => rfl) shr ?lsr,
      modifyInstr_of_shiftOperand EncodeDecode.rol (fun _ _ => rfl) rol ?rol,
      modifyInstr_of_shiftOperand EncodeDecode.ror (fun _ _ => rfl) ror ?ror⟩⟩
  case asl | lsr | rol | ror => exact isRow_modifyRows (fun _ => id) (fun _ => rfl) (fun _ => rfl) b lo hi

end Sys2Proof.Proofs
end

section
/-! Increment and decrement (R194 to R199): a byte of memory or an index register, then `setNZ` of the result. -/

namespace Sys2Proof.Proofs

open Sys2Proof.Machine Sys2Proof.Laws

/-- Settles O20: a count is one wrapping sum, stored, with `setNZ` of it. -/
theorem countResults : Obligations.CountResults := by
  refine ⟨fun b lo hi =>
    ⟨modifyInstr_of_modifyMem (g := fun v p => (v + 1#8, setNZ (v + 1#8) p)) EncodeDecode.inc ?inc
        (fun _ _ => rfl) ?incFlags,
      modifyInstr_of_modifyMem (g := fun v p => (v - 1#8, setNZ (v - 1#8) p)) EncodeDecode.dec ?dec
        (fun _ _ => rfl) ?decFlags⟩,
    registerInstr_of_complete EncodeDecode.inx rfl rfl (fun _ => rfl) ?inx,
    registerInstr_of_complete EncodeDecode.iny rfl rfl (fun _ => rfl) ?iny,
    registerInstr_of_complete EncodeDecode.dex rfl rfl (fun _ => rfl) ?dex,
    registerInstr_of_complete EncodeDecode.dey rfl rfl (fun _ => rfl) ?dey⟩
  case inc | dec => exact isRow_modifyRows (fun _ => id) (fun _ => rfl) (fun _ => rfl) b lo hi
  case incFlags | decFlags => exact fun _ _ => ⟨rfl, setsNZ_setNZ _ _⟩
  case inx | iny | dex | dey => exact fun _ => ⟨_, ⟨_, setsNZ_setNZ _ _, rfl⟩, rfl⟩

end Sys2Proof.Proofs
end

section
/-! Calls and returns (R211, R212, R243, R244): the pulls as equations, and a return after the entry that pushed what it
pulls. -/

namespace Sys2Proof.Proofs

open Sys2Proof.Machine Sys2Proof.Laws

/-! ## Words on the stack -/

theorem pushWord_eq (w : Word) (s : State) :
    pushWord w s =
      { s with
        cpu := { s.cpu with sp := s.cpu.sp - 2#8 }
        bus := { s.bus with ram := pushedRam s.bus.ram s.cpu.sp [hiByte w, loByte w] } } := by
  have hsp : s.cpu.sp - 1#8 - 1#8 = s.cpu.sp - 2#8 := by bv_omega
  unfold pushWord
  simp only [push_eq, pushedRam, hsp]

theorem pull_eq_stackTop (s : State) : pull s = (stackTop s, setSP (s.cpu.sp + 1#8) s) := pull_eq s

theorem pullWord_eq (s : State) :
    pullWord s = (wordOf (stackTop s) (stackTop (setSP (s.cpu.sp + 1#8) s)), setSP (s.cpu.sp + 2#8) s) := by
  have hsp : s.cpu.sp + 1#8 + 1#8 = s.cpu.sp + 2#8 := BitVec.add_assoc _ _ _
  unfold pullWord
  simp only [pull_eq_stackTop, setSP_cpu_sp, hsp]
  rfl

/-- The return from an interrupt as one equation. -/
theorem returnFromInterrupt_eq (s : State) :
    returnFromInterrupt s =
      { s with
        cpu :=
          { s.cpu with
            p := statusPulled (stackTop s)
            pc := wordOf (stackTop (setSP (s.cpu.sp + 1#8) s)) (stackTop (setSP (s.cpu.sp + 2#8) s))
            sp := s.cpu.sp + 3#8 } } := by
  have h2 : s.cpu.sp + 1#8 + 1#8 = s.cpu.sp + 2#8 := BitVec.add_assoc _ _ _
  have h3 : s.cpu.sp + 1#8 + 2#8 = s.cpu.sp + 3#8 := BitVec.add_assoc _ _ _
  unfold returnFromInterrupt
  simp only [pull_eq_stackTop, pullWord_eq, setP_cpu_sp, setSP_cpu_sp, h2, h3]
  rfl

/-- Byte `k` of the pushed bytes is the next to be pulled where `SP` is one below its location. -/
theorem stackTop_of_pushedRam {m : Memory} (hm : m.wf = true) {s : State} {sp : Byte} {bytes : List Byte}
    (hram : s.bus.ram = pushedRam m sp bytes) (hlen : bytes.length ≤ 256) {k : Nat} (hk : k < bytes.length)
    (hsp : s.cpu.sp + 1#8 = sp - BitVec.ofNat 8 k) : stackTop s = bytes[k] := by
  rw [stackTop, hram, hsp]
  exact pushedRam_read_pushed hm sp hlen hk

theorem stackTop_setSP_of_pushedRam {m : Memory} (hm : m.wf = true) {s : State} {sp v : Byte} {bytes : List Byte}
    (hram : s.bus.ram = pushedRam m sp bytes) (hlen : bytes.length ≤ 256) {k : Nat} (hk : k < bytes.length)
    (hsp : v + 1#8 = sp - BitVec.ofNat 8 k) : stackTop (setSP v s) = bytes[k] :=
  stackTop_of_pushedRam (s := setSP v s) hm hram hlen hk hsp

/-! ## `JSR` and `RTS` -/

theorem exec_jsr (w : Word) (s : State) :
    exec (.jsr w) s =
      .next
        { s with
          cpu := { s.cpu with pc := w, sp := s.cpu.sp - 2#8, cycles := 6 }
          bus :=
            { s.bus with
              ram := pushedRam s.bus.ram s.cpu.sp [hiByte (s.cpu.pc - 1#16), loByte (s.cpu.pc - 1#16)] } } := by
  change complete 6 (setPC w (pushWord (s.cpu.pc - 1#16) s)) = _
  rw [pushWord_eq]
  rfl

theorem exec_rts (s : State) :
    exec .rts s =
      .next
        { s with
          cpu :=
            { s.cpu with
              pc := wordOf (stackTop s) (stackTop (setSP (s.cpu.sp + 1#8) s)) + 1#16
              sp := s.cpu.sp + 2#8
              cycles := 6 } } := by
  change complete 6 (setPC ((pullWord s).1 + 1#16) (pullWord s).2) = _
  rw [pullWord_eq]
  rfl

/-- Settles O22: the equations of `JSR` and `RTS`, and their encodings. -/
theorem subroutineResults : Obligations.SubroutineResults :=
  ⟨fun _ _ s => ⟨encodes_of_statement (EncodeDecode.jsr _) rfl (encode_of_word rfl rfl), exec_jsr _ s⟩,
    fun s => ⟨encodes_of_statement EncodeDecode.rts rfl rfl, exec_rts s⟩⟩

/-- `RTS` with `SP` two below a pushed word goes to the address after that word. -/
theorem exec_rts_of_pushedRam {m : Memory} (hm : m.wf = true) {s : State} {sp : Byte} {ret : Word}
    (hram : s.bus.ram = pushedRam m sp [hiByte ret, loByte ret]) (hsp : s.cpu.sp = sp - 2#8) :
    exec .rts s = .next { s with cpu := { s.cpu with pc := ret + 1#16, sp := sp, cycles := 6 } } := by
  have hlo : stackTop s = loByte ret := stackTop_of_pushedRam hm hram (by simp) (k := 1) (by simp) (by bv_omega)
  have hhi : stackTop (setSP (s.cpu.sp + 1#8) s) = hiByte ret :=
    stackTop_setSP_of_pushedRam hm hram (by simp) (k := 0) (by simp) (by bv_omega)
  have hback : s.cpu.sp + 2#8 = sp := by rw [hsp, BitVec.sub_add_cancel]
  rw [exec_rts, hlo, hhi, wordOf_bytes, hback]

/-! ## Interrupt entries and `RTI` -/

theorem inCartridge_irqVector : InCartridge irqVector := ⟨by decide, by decide⟩

theorem exec_rti (s : State) : exec .rti s = .next (setCycles 6 (returnFromInterrupt s)) := rfl

theorem exec_brk_enters (s : State) :
    ∃ t,
      exec .brk s = .next t ∧
        Enters s t (s.cpu.pc + 1#16) (s.cpu.p ||| 0x30#8) (s.cpu.p ||| 0x04#8) 0xFFFE#16 7 := by
  refine ⟨setCycles 7 (enterInterrupt (s.cpu.pc + 1#16) (statusPushedByBreak s.cpu.p) true irqVector s), rfl, ?_⟩
  rw [enterInterrupt_eq _ _ _ inCartridge_irqVector]
  rfl

theorem cpuNmi_enters (s : State) :
    Enters s (cpuNmi s) s.cpu.pc ((s.cpu.p &&& 0xEF#8) ||| 0x20#8) s.cpu.p 0xFFFA#16 7 := by
  rw [cpuNmi, enterInterrupt_eq _ _ _ inCartridge_nmiVector]
  rfl

/-- `RTI` right after an interrupt entry that pushed the live status: the return address of the entry, `SP` and `P` as
before it; the entry kept the other registers. -/
theorem exec_rti_of_enters {s t : State} (hram : s.bus.ram.wf = true) {ret : Word} {status p : Byte} {vector : Word}
    {n : Nat} (h : Enters s t ret status p vector n) (hp : statusPulled status = s.cpu.p) :
    ∃ u, exec .rti t = .next u ∧ u.cpu = { s.cpu with pc := ret, cycles := 6 } := by
  have hbytes : t.bus.ram = pushedRam s.bus.ram s.cpu.sp [hiByte ret, loByte ret, status] := by rw [h]
  have hsp : t.cpu.sp = s.cpu.sp - 3#8 := by rw [h]
  have hstatus : stackTop t = status :=
    stackTop_of_pushedRam hram hbytes (by simp) (k := 2) (by simp) (by bv_omega)
  have hlo : stackTop (setSP (t.cpu.sp + 1#8) t) = loByte ret :=
    stackTop_setSP_of_pushedRam hram hbytes (by simp) (k := 1) (by simp) (by bv_omega)
  have hhi : stackTop (setSP (t.cpu.sp + 2#8) t) = hiByte ret :=
    stackTop_setSP_of_pushedRam hram hbytes (by simp) (k := 0) (by simp) (by bv_omega)
  have hback : t.cpu.sp + 3#8 = s.cpu.sp := by rw [hsp, BitVec.sub_add_cancel]
  refine ⟨_, exec_rti t, ?_⟩
  rw [returnFromInterrupt_eq, hstatus, hp, hlo, hhi, wordOf_bytes, hback, h]
  rfl

/-- A status byte pulled back is the live one where it differs from it in bits 4 and 5 alone (R30). -/
theorem statusPulled_of_and_eq {p v : Byte} (hp : StatusOk p) (hv : v &&& 0xCF#8 = p &&& 0xCF#8) :
    statusPulled v = p := by
  have hb : p[4] = false := hp.1
  have hu : p[5] = true := hp.2
  rw [statusPulled, hv]
  apply BitVec.eq_of_getLsbD_eq
  intro i hi
  rw [BitVec.getLsbD_or, BitVec.getLsbD_and]
  interval_cases i <;> simp [hb, hu]

theorem statusPulled_statusPushedByBreak {p : Byte} (hp : StatusOk p) : statusPulled (statusPushedByBreak p) = p :=
  statusPulled_of_and_eq hp (by rw [statusPushedByBreak, BitVec.and_or_distrib_right]; exact BitVec.or_zero)

theorem statusPulled_statusPushedByInterrupt {p : Byte} (hp : StatusOk p) :
    statusPulled (statusPushedByInterrupt p) = p :=
  statusPulled_of_and_eq hp (by
    rw [statusPushedByInterrupt, BitVec.and_or_distrib_right, BitVec.and_assoc]; exact BitVec.or_zero)

/-- Settles O30: each return pulls what its entry pushed, and the invariant fixes the bits that a pull ignores. -/
theorem returnsComeBack : Obligations.ReturnsComeBack := by
  intro w s h
  have hram := h.bus.ram.wf
  have hp : StatusOk s.cpu.p := ⟨h.cpu.breakClear, h.cpu.unusedSet⟩
  refine ⟨?call, ?brk, ?nmi⟩
  case call =>
    refine ⟨_, _, exec_jsr w s, rfl, exec_rts_of_pushedRam hram rfl rfl, ?_⟩
    rw [BitVec.sub_add_cancel]
  case brk =>
    obtain ⟨t, hbrk, henters⟩ := exec_brk_enters s
    obtain ⟨u, hrti, hcpu⟩ := exec_rti_of_enters hram henters (statusPulled_statusPushedByBreak hp)
    exact ⟨t, u, hbrk, hrti, hcpu⟩
  case nmi => exact exec_rti_of_enters hram (cpuNmi_enters s) (statusPulled_statusPushedByInterrupt hp)

end Sys2Proof.Proofs
end

section
/-! Jumps and branches (R121, R125, R210, R213 to R221): the pointer within its page, and the branches' common rule. -/

namespace Sys2Proof.Proofs

open Sys2Proof.Machine Sys2Proof.Laws

theorem loByte_eq_setWidth (w : Word) : loByte w = w.setWidth 8 := rfl

theorem hiByte_eq_setWidth (w : Word) : hiByte w = (w >>> 8).setWidth 8 := by
  rw [hiByte, ← BitVec.ofNat_toNat, BitVec.toNat_ushiftRight, Nat.shiftRight_eq_div_pow]

/-- The next address of the same page: the page of the pointer, the low byte of its successor (R125). -/
theorem samePageNext_eq (w : Word) : samePageNext w = (w &&& 0xFF00#16) ||| ((w + 1#16) &&& 0x00FF#16) := by
  have hlo : loByte ((w &&& 0xFF00#16) ||| ((w + 1#16) &&& 0x00FF#16)) = loByte w + 1#8 := by
    simp only [loByte_eq_setWidth, BitVec.setWidth_or, BitVec.setWidth_and, BitVec.setWidth_add,
      BitVec.setWidth_ofNat_of_le, Nat.reduceLeDiff, BitVec.reduceOfNat, BitVec.and_zero, BitVec.zero_or]
    exact BitVec.and_allOnes
  have hhi : hiByte ((w &&& 0xFF00#16) ||| ((w + 1#16) &&& 0x00FF#16)) = hiByte w := by
    simp only [hiByte_eq_setWidth, BitVec.ushiftRight_or_distrib, BitVec.ushiftRight_and_distrib,
      BitVec.reduceHShiftRight, BitVec.and_zero, BitVec.or_zero, BitVec.setWidth_and, BitVec.setWidth_ofNat_of_le,
      Nat.reduceLeDiff]
    exact BitVec.and_allOnes
  rw [samePageNext, ← hlo, ← hhi, wordOf_bytes]

theorem exec_jmp_ind (w : Word) (s : State) :
    exec (.jmp (.ind w)) s =
      let l := memRead w s
      let h := memRead (samePageNext w) l.2
      .next { h.2 with cpu := { s.cpu with pc := wordOf l.1 h.1, cycles := 5 } } := by
  change complete 5 (setPC (readWord w (samePageNext w) s).1 (readWord w (samePageNext w) s).2) = _
  simp only [readWord, complete, setPC, setCycles, memRead_cpu]

/-- Settles O21: the word itself, or two reads, of which no byte of memory changes. -/
theorem jumpResults : Obligations.JumpResults := by
  intro lo hi s
  refine ⟨⟨encodes_of_statement (EncodeDecode.jmp _) rfl (encode_of_word rfl rfl), rfl⟩,
    encodes_of_statement (EncodeDecode.jmp _) rfl (encode_of_word rfl rfl), ?_,
    sameMemory_trans (sameMemory_memRead _ _) (sameMemory_memRead _ _)⟩
  rw [exec_jmp_ind, samePageNext_eq]

/-- The cycles of a branch taken (R213), the pages as quotients. -/
theorem takenCycles_eq (target pc : Word) :
    (2 + if pageDiffers target pc then 2 else 1) = if target.toNat / 256 = pc.toNat / 256 then 3 else 4 := by
  rw [pageDiffers_eq_decide]
  by_cases h : target.toNat / 256 = pc.toNat / 256 <;> simp [h]

/-- The common rule of the branches as one equation (R213): the target by a signed sum, the page as a quotient. -/
theorem branchIf_eq (condition : Bool) (off : Byte) (s : State) :
    branchIf condition off s =
      .next
        (if condition = true then
          { s with
            cpu :=
              { s.cpu with
                pc := s.cpu.pc + BitVec.ofInt 16 off.toInt
                cycles :=
                  if (s.cpu.pc + BitVec.ofInt 16 off.toInt).toNat / 256 = s.cpu.pc.toNat / 256 then 3 else 4 } }
        else { s with cpu := { s.cpu with cycles := 2 } }) := by
  cases condition with
  | false => rfl
  | true =>
    change complete (2 + if pageDiffers (branchTarget s.cpu.pc off) s.cpu.pc then 2 else 1) (setPC _ s) = _
    rw [takenCycles_eq]
    rfl

theorem branchInstr_of_branchIf {f : Byte → Instr} {op : Byte} {condition : Byte → Bool}
    (hstatement : ∀ off, EncodeDecode.Statement (f off)) (hwf : ∀ off, (f off).wf = true)
    (hbytes : ∀ off, encode (f off) = [op, off])
    (hexec : ∀ off s, exec (f off) s = branchIf (condition s.cpu.p) off s) : BranchInstr f op condition :=
  fun off => ⟨encodes_of_statement (hstatement off) (hwf off) (hbytes off), fun s => by rw [hexec, branchIf_eq]⟩

/-- Settles O23: each branch is the common rule at one flag. -/
theorem branchResults : Obligations.BranchResults :=
  ⟨branchInstr_of_branchIf EncodeDecode.bcc (fun _ => rfl) (fun _ => rfl) (fun _ _ => rfl),
    branchInstr_of_branchIf EncodeDecode.bcs (fun _ => rfl) (fun _ => rfl) (fun _ _ => rfl),
    branchInstr_of_branchIf EncodeDecode.beq (fun _ => rfl) (fun _ => rfl) (fun _ _ => rfl),
    branchInstr_of_branchIf EncodeDecode.bne (fun _ => rfl) (fun _ => rfl) (fun _ _ => rfl),
    branchInstr_of_branchIf EncodeDecode.bmi (fun _ => rfl) (fun _ => rfl) (fun _ _ => rfl),
    branchInstr_of_branchIf EncodeDecode.bpl (fun _ => rfl) (fun _ => rfl) (fun _ _ => rfl),
    branchInstr_of_branchIf EncodeDecode.bvc (fun _ => rfl) (fun _ => rfl) (fun _ _ => rfl),
    branchInstr_of_branchIf EncodeDecode.bvs (fun _ => rfl) (fun _ => rfl) (fun _ _ => rfl)⟩

end Sys2Proof.Proofs
end

section
/-! Stack, flag and system instructions (R230 to R244, R250, R251): the pushes and pulls as equations, the flag
instructions as one mask each, the no-operations row by row of the rules' table. -/

namespace Sys2Proof.Proofs

open Sys2Proof.Machine Sys2Proof.Laws

/-! ## The four stack instructions -/

/-- A push that completes an instruction: one byte of RAM, `SP` and the cycle count. -/
theorem complete_push (n : Nat) (v : Byte) (s : State) :
    complete n (push v s) =
      .next
        { s with
          cpu := { s.cpu with sp := s.cpu.sp - 1#8, cycles := n }
          bus := { s.bus with ram := pushedRam s.bus.ram s.cpu.sp [v] } } := by
  rw [push_eq]
  rfl

theorem exec_pla (s : State) :
    exec .pla s =
      .next
        { s with
          cpu :=
            { s.cpu with a := stackTop s, p := setNZ (stackTop s) s.cpu.p, sp := s.cpu.sp + 1#8, cycles := 4 } } := by
  change complete 4 (setNZOf (pull s).1 (setA (pull s).1 (pull s).2)) = _
  rw [pull_eq_stackTop]
  rfl

theorem exec_plp (s : State) :
    exec .plp s =
      .next { s with cpu := { s.cpu with p := statusPulled (stackTop s), sp := s.cpu.sp + 1#8, cycles := 4 } } := by
  change complete 4 (setP (statusPulled (pull s).1) (pull s).2) = _
  rw [pull_eq_stackTop]
  rfl

/-- Settles O24: a push of `A` or of the status with B and U set, a pull into `A` with `setNZ`, a pull into `P`. -/
theorem stackResults : Obligations.StackResults :=
  ⟨⟨encodes_of_statement EncodeDecode.pha rfl rfl, encodes_of_statement EncodeDecode.pla rfl rfl,
      encodes_of_statement EncodeDecode.php rfl rfl, encodes_of_statement EncodeDecode.plp rfl rfl⟩,
    fun s => ⟨complete_push 3 s.cpu.a s, ⟨_, setsNZ_setNZ _ _, exec_pla s⟩,
      complete_push 3 (statusPushedByBreak s.cpu.p) s, exec_plp s⟩⟩

/-! ## The seven flag instructions -/

/-- An instruction that writes one flag, `f` being the flag write as an operation on the status byte. -/
theorem registerInstr_of_writeFlag {i : Instr} {op mask : Byte} {b : Bool} {f : Byte → Byte}
    (hstatement : EncodeDecode.Statement i) (hwf : i.wf = true) (hbytes : encode i = [op])
    (hexec : ∀ s, exec i s = writeFlag mask b s) (hflag : ∀ p, setFlag mask b p = f p) :
    RegisterInstr i op 2 (fun c c' => c' = { c with p := f c.p }) :=
  registerInstr_of_complete hstatement hwf hbytes hexec fun s => ⟨_, rfl, by rw [hflag]; rfl⟩

/-- Settles O25: each instruction is the common rule at one mask. -/
theorem flagResults : Obligations.FlagResults :=
  ⟨registerInstr_of_writeFlag EncodeDecode.clc rfl rfl (fun _ => rfl) (fun _ => rfl),
    registerInstr_of_writeFlag EncodeDecode.sec rfl rfl (fun _ => rfl) (fun _ => rfl),
    registerInstr_of_writeFlag EncodeDecode.cli rfl rfl (fun _ => rfl) (fun _ => rfl),
    registerInstr_of_writeFlag EncodeDecode.sei rfl rfl (fun _ => rfl) (fun _ => rfl),
    registerInstr_of_writeFlag EncodeDecode.cld rfl rfl (fun _ => rfl) (fun _ => rfl),
    registerInstr_of_writeFlag EncodeDecode.sed rfl rfl (fun _ => rfl) (fun _ => rfl),
    registerInstr_of_writeFlag EncodeDecode.clv rfl rfl (fun _ => rfl) (fun _ => rfl)⟩

/-! ## The no-operations

What the model answers for a row of the table: each fact is one equation between two lists over the table, which
`List.map_inj_left` reads row by row. -/

theorem noOperations_exec : ∀ r ∈ noOperations, exec r.1 = complete r.2.2 := List.map_inj_left.1 rfl

theorem noOperations_bytes : ∀ r ∈ noOperations, encode r.1 = [BitVec.ofNat 8 r.2.1] := List.map_inj_left.1 rfl

theorem noOperations_instrOf : ∀ r ∈ noOperations, instrOf (BitVec.ofNat 8 r.2.1) 0#8 0#8 = r.1 :=
  List.map_inj_left.1 rfl

theorem noOperations_length : ∀ r ∈ noOperations, r.1.length = 1 := List.map_inj_left.1 rfl

/-- Each row's opcode is the whole encoding of its instruction (R113, R130). -/
theorem noOperations_encodes : ∀ r ∈ noOperations, Encodes r.1 [BitVec.ofNat 8 r.2.1] := by
  intro r hr
  have hinstr := noOperations_instrOf r hr
  have hlen : opcodeLength (BitVec.ofNat 8 r.2.1) = 1 := by rw [opcodeLength, hinstr, noOperations_length r hr]
  refine ⟨noOperations_bytes r hr, fun rest => ?_⟩
  rw [List.singleton_append, decode_of_length_one hlen, hinstr]

/-- Settles O26: a row's encoding, and its meaning, which is to complete and count the cycles. -/
theorem noOperationResults : Obligations.NoOperationResults :=
  ⟨fun i op n h => ⟨noOperations_encodes (i, op, n) h,
    fun s => ⟨s.cpu, rfl, congrFun (noOperations_exec (i, op, n) h) s⟩⟩, rfl⟩

/-! ## `BRK` and `RTI` -/

/-- Settles O27: `BRK` is the interrupt entry with the status that a break pushes, `RTI` the return as an equation. -/
theorem breakAndReturnResults : Obligations.BreakAndReturnResults := by
  refine ⟨⟨encodes_of_statement EncodeDecode.brk rfl rfl, exec_brk_enters⟩,
    encodes_of_statement EncodeDecode.rti rfl rfl, fun s => ?_⟩
  rw [exec_rti, returnFromInterrupt_eq]
  rfl

end Sys2Proof.Proofs
end

section
/-! Nothing stops (R300), part by part of a step; the entries of `irq()` and `nmi()` (R308 to R311). -/

namespace Sys2Proof.Proofs

open Sys2Proof.Machine Sys2Proof.Laws

/-! ## Every step completes -/

theorem cpuClock_next (s : State) : ∃ t, cpuClock s = .next t := by
  unfold cpuClock
  split
  · obtain ⟨t, ht⟩ : ∃ t, runInstr s = .next t := exec_next _ _
    rw [ht]
    exact ⟨_, rfl⟩
  · exact ⟨_, rfl⟩

theorem cpuSlot_next (s : State) : ∃ t, cpuSlot s = .next t := by
  unfold cpuSlot
  split
  · split
    · exact ⟨_, rfl⟩
    · exact cpuClock_next s
  · exact ⟨_, rfl⟩

/-- A step completes because its CPU slot does: the other parts are total on states (R350). -/
theorem step_next (s : State) : ∃ t, step s = .next t := by
  obtain ⟨t, ht⟩ := cpuSlot_next (ppuTick s)
  exact ⟨afterSlot t, by rw [step, busClock, ht]⟩

/-- Settles O9: no instruction stops, and a step can stop at an instruction only. -/
theorem nothingStops : Obligations.NothingStops := ⟨exec_next, step_next⟩

/-! ## `irq()` and `nmi()` -/

/-- An `irq()` with I set leaves no trace (R309). -/
theorem cpuIrq_refused {s : State} (h : flagI s.cpu.p = true) : cpuIrq s = s := if_pos h

/-- An `irq()` with I clear is the interrupt entry (R308). -/
theorem cpuIrq_enters {s : State} (h : flagI s.cpu.p = false) :
    Enters s (cpuIrq s) s.cpu.pc ((s.cpu.p &&& 0xEF#8) ||| 0x20#8) (s.cpu.p ||| 0x04#8) 0xFFFE#16 7 := by
  rw [cpuIrq, if_neg (Bool.eq_false_iff.mp h), enterInterrupt_eq _ _ _ inCartridge_irqVector]
  rfl

/-- Settles O28: an `irq()` by the I flag, and an `nmi()`, which does not ask it. -/
theorem interruptEntries : Obligations.InterruptEntries :=
  fun s => ⟨cpuIrq_enters, cpuIrq_refused, cpuNmi_enters s⟩

end Sys2Proof.Proofs
end

section
/-! The counters of the Bus clock (R351, R352, R365, R401): what the CPU slot may count, and that no bus access and no
instruction changes any of them. -/

namespace Sys2Proof.Proofs

open Sys2Proof.Machine Sys2Proof.Laws

/-- The counters that only the master clock moves: `clock_count`, `sys_clock`, `sample_acc` and the PPU's dot. -/
structure Counters where
  clockCount : Nat
  sysClock : Nat
  sampleAcc : Nat
  scanline : Int
  cycle : Nat

def counters (s : State) : Counters :=
  ⟨s.cpu.clockCount, s.bus.sysClock, s.bus.sampleAcc, s.ppu.scanline, s.ppu.cycle⟩

/-! ## Accesses and registers -/

@[simp] theorem counters_setA (v : Byte) (s : State) : counters (setA v s) = counters s := rfl
@[simp] theorem counters_setX (v : Byte) (s : State) : counters (setX v s) = counters s := rfl
@[simp] theorem counters_setY (v : Byte) (s : State) : counters (setY v s) = counters s := rfl
@[simp] theorem counters_setSP (v : Byte) (s : State) : counters (setSP v s) = counters s := rfl
@[simp] theorem counters_setPC (v : Word) (s : State) : counters (setPC v s) = counters s := rfl
@[simp] theorem counters_setP (v : Byte) (s : State) : counters (setP v s) = counters s := rfl
@[simp] theorem counters_setNZOf (v : Byte) (s : State) : counters (setNZOf v s) = counters s := rfl

@[simp] theorem counters_memRead (a : Word) (s : State) : counters (memRead a s).2 = counters s := by
  obtain ⟨_, _, _, _, _, _, h⟩ := cpuRead_eq a false s
  rw [memRead, h]
  rfl

theorem ppuWrite_dot (cart : Option Cartridge) (p : Ppu) (a : PpuAddr) (data : Byte) :
    (ppuWrite cart p a data).1.scanline = p.scanline ∧ (ppuWrite cart p a data).1.cycle = p.cycle := by
  unfold ppuWrite
  split
  · exact ⟨rfl, rfl⟩
  · split
    · unfold nametableWrite
      split
      · exact ⟨rfl, rfl⟩
      · split <;> exact ⟨rfl, rfl⟩
    · exact ⟨rfl, rfl⟩

/-- No port moves the dot. -/
theorem writePort_dot (cart : Option Cartridge) (port : BitVec 3) (data : Byte) (p : Ppu) :
    (p.writePort cart port data).1.scanline = p.scanline ∧ (p.writePort cart port data).1.cycle = p.cycle := by
  unfold Ppu.writePort
  split <;> try exact ⟨rfl, rfl⟩
  · unfold Ppu.writeScroll
    split <;> exact ⟨rfl, rfl⟩
  · unfold Ppu.writeAddress
    split <;> exact ⟨rfl, rfl⟩
  · exact ppuWrite_dot cart p (busAddress p.v) data

@[simp] theorem counters_memWrite (a : Word) (v : Byte) (s : State) : counters (memWrite a v s) = counters s := by
  unfold memWrite cpuWrite
  split <;> try rfl
  · next port _ =>
    obtain ⟨hscanline, hcycle⟩ := writePort_dot s.cart port v s.ppu
    simp only [counters, hscanline, hcycle]
  · unfold writeStrobe
    split <;> rfl

@[simp] theorem counters_readWord (lo hi : Word) (s : State) : counters (readWord lo hi s).2 = counters s := by
  simp [readWord]

@[simp] theorem counters_push (v : Byte) (s : State) : counters (push v s) = counters s := by simp [push]

@[simp] theorem counters_pull (s : State) : counters (pull s).2 = counters s := by simp [pull]

@[simp] theorem counters_pushWord (w : Word) (s : State) : counters (pushWord w s) = counters s := by simp [pushWord]

@[simp] theorem counters_pullWord (s : State) : counters (pullWord s).2 = counters s := by simp [pullWord]

@[simp] theorem counters_enterInterrupt (ret : Word) (status : Byte) (disable : Bool) (vector : Word) (s : State) :
    counters (enterInterrupt ret status disable vector s) = counters s := by
  cases disable <;> simp [enterInterrupt]

@[simp] theorem counters_returnFromInterrupt (s : State) : counters (returnFromInterrupt s) = counters s := by
  simp [returnFromInterrupt]

@[simp] theorem counters_loadOperand (m : ReadOperand) (s : State) : counters (loadOperand m s).st = counters s := by
  cases m <;> simp [loadOperand, loadMem_eq]

@[simp] theorem counters_jumpAddress (t : JumpTarget) (s : State) : counters (jumpAddress t s).2 = counters s := by
  cases t <;> simp [jumpAddress]

/-! ## Instructions and slots -/

/-- The outcome is a next state, with the counters of `s`. -/
def KeepsCounters (s : State) (o : Host.Outcome State Fault Refusal) : Prop :=
  ∃ t, o = .next t ∧ counters t = counters s

theorem keepsCounters_complete {s t : State} (n : Nat) (h : counters t = counters s) :
    KeepsCounters s (complete n t) := ⟨_, rfl, h⟩

theorem readThen_keepsCounters (m : ReadOperand) {f : Byte → State → State}
    (hf : ∀ v t, counters (f v t) = counters t) (s : State) : KeepsCounters s (readThen m f s) :=
  keepsCounters_complete _ (by rw [hf, counters_loadOperand])

theorem storeTo_keepsCounters (m : MemOperand) (v : Byte) (s : State) : KeepsCounters s (storeTo m v s) :=
  keepsCounters_complete _ (by simp)

theorem modifyMem_keepsCounters (m : MemOperand) (f : Byte → Byte → Byte × Byte) (s : State) :
    KeepsCounters s (modifyMem m f s) := keepsCounters_complete _ (by simp)

theorem shiftOperand_keepsCounters (f : Byte → Bool → ShiftResult) (m : ShiftOperand) (s : State) :
    KeepsCounters s (shiftOperand f m s) := by
  cases m with
  | acc => exact keepsCounters_complete _ rfl
  | mem m => unfold shiftOperand; exact modifyMem_keepsCounters m _ s

theorem branchIf_keepsCounters (c : Bool) (off : Byte) (s : State) : KeepsCounters s (branchIf c off s) := by
  cases c <;> exact keepsCounters_complete _ rfl

/-- Every instruction leaves the counters alone. Those of the last arm work on CPU registers alone. -/
theorem exec_keepsCounters (i : Instr) (s : State) : KeepsCounters s (exec i s) := by
  cases i with
  | lda m | ldx m | ldy m | adc m | sbc m | and m | ora m | eor m | cmp m | cpx m | cpy m =>
    simp only [exec, execLda, execLdx, execLdy, execAdc, execSbc, execAnd, execOra, execEor, execCmp, execCpx, execCpy]
    refine readThen_keepsCounters m ?_ s
    exact fun _ _ => rfl
  | bit m =>
    simp only [exec, execBit]
    refine readThen_keepsCounters (.mem m) ?_ s
    exact fun _ _ => rfl
  | sta m | stx m | sty m => exact storeTo_keepsCounters m _ s
  | asl m | lsr m | rol m | ror m => exact shiftOperand_keepsCounters _ m s
  | inc m | dec m =>
    simp only [exec, execInc, execDec]
    exact modifyMem_keepsCounters m _ s
  | bcc off | bcs off | beq off | bne off | bmi off | bpl off | bvc off | bvs off =>
    exact branchIf_keepsCounters _ off s
  | jmp t => exact keepsCounters_complete _ (by simp)
  | jsr w => exact keepsCounters_complete _ (by simp)
  | rts => exact keepsCounters_complete _ (by simp)
  | pha | php => exact keepsCounters_complete _ (counters_push _ s)
  | pla | plp => exact keepsCounters_complete _ (by simp)
  | brk => exact keepsCounters_complete _ (counters_enterInterrupt _ _ _ _ s)
  | rti => exact keepsCounters_complete _ (counters_returnFromInterrupt s)
  | _ => exact keepsCounters_complete _ rfl

@[simp] theorem counters_fetchByte (s : State) : counters (fetchByte s).2 = counters s := by simp [fetchByte]

theorem counters_fetchInstr (s : State) : counters (fetchInstr s).st = counters s := by
  unfold fetchInstr fetchOperands
  dsimp only
  split
  · simp
  · split <;> simp

/-- `CPU.clock()` counts one CPU cycle, whether it runs an instruction or not (R110). -/
theorem cpuClock_counters (s : State) :
    ∃ t, cpuClock s = .next t ∧ counters t = { counters s with clockCount := s.cpu.clockCount + 1 } := by
  unfold cpuClock
  split
  · obtain ⟨t, ht, hcounters⟩ := exec_keepsCounters (fetchInstr s).instr (fetchInstr s).st
    have hrun : runInstr s = .next t := ht
    rw [counters_fetchInstr] at hcounters
    refine ⟨countCycle t, by rw [hrun], ?_⟩
    calc counters (countCycle t)
        = { counters t with clockCount := (counters t).clockCount + 1 } := rfl
      _ = { counters s with clockCount := s.cpu.clockCount + 1 } := by rw [hcounters]; rfl
  · exact ⟨_, rfl, rfl⟩

theorem dmaStep_counters (s : State) : counters (dmaStep s) = counters s := by
  unfold dmaStep
  split
  · split <;> rfl
  · split
    · exact counters_memRead _ s
    · rfl

/-- The CPU cycles that the slot of a Bus clock counts: one on every third clock, but none while a DMA is active (R351,
R360). -/
def slotCycles (s : State) : Nat := if s.bus.sysClock % 3 = 0 ∧ s.bus.dma.active = false then 1 else 0

theorem cpuSlot_counters (s : State) :
    ∃ t, cpuSlot s = .next t ∧ counters t = { counters s with clockCount := s.cpu.clockCount + slotCycles s } := by
  unfold cpuSlot slotCycles
  by_cases hslot : s.bus.sysClock % 3 = 0
  · cases hdma : s.bus.dma.active
    · simpa [hslot] using cpuClock_counters s
    · exact ⟨dmaStep s, by simp [hslot], by rw [dmaStep_counters, if_neg (by simp)]; rfl⟩
  · exact ⟨s, by simp [hslot], by simp [hslot, counters]⟩

end Sys2Proof.Proofs
end

section
/-! The PPU's dot (R400, R401, R403): where it moves, and the one dot that raises the NMI request. -/

namespace Sys2Proof.Proofs

open Sys2Proof.Machine Sys2Proof.Laws

/-- The dot (R50) and the NMI request (R403) of a PPU. -/
def dotAndRequest (p : Ppu) : Int × Nat × Bool := (p.scanline, p.cycle, p.nmiOut)

/-- A conditional part of the schedule keeps what its work keeps. -/
theorem doWhen_keeps {β : Type} (g : Ppu → β) {f : Ppu → Ppu} (hf : ∀ q, g (f q) = g q) (b : Bool) (p : Ppu) :
    g (p.doWhen b f) = g p := by
  cases b
  · rfl
  · exact hf p

theorem dotAndRequest_latches {p q : Ppu} (h : OnlyLatches p q) : dotAndRequest q = dotAndRequest p := by
  obtain ⟨-, -, -, -, hscanline, hcycle, -, -, -, hnmi⟩ := h
  rw [dotAndRequest, hscanline, hcycle, hnmi, dotAndRequest]

theorem dotAndRequest_spriteShift (c : Nat) (p : Ppu) : dotAndRequest (p.spriteShift c) = dotAndRequest p := by
  unfold Ppu.spriteShift
  split <;> rfl

theorem dotAndRequest_spriteEvaluation (s : Nat) (p : Ppu) :
    dotAndRequest (p.spriteEvaluation s) = dotAndRequest p := by
  unfold Ppu.spriteEvaluation
  dsimp only
  split <;> rfl

theorem dotAndRequest_spriteFetch (cart : Option Cartridge) (s : Nat) (p : Ppu) :
    dotAndRequest (p.spriteFetch cart s) = dotAndRequest p := by
  unfold Ppu.spriteFetch
  split <;> rfl

/-- The background pipeline and the sprite shift of a rendering dot. -/
theorem dotAndRequest_pipelines (cart : Option Cartridge) (s : Int) (c : Nat) (p : Ppu) :
    dotAndRequest ((p.backgroundPipeline cart s c).spriteShift c) = dotAndRequest p :=
  (dotAndRequest_spriteShift c _).trans (dotAndRequest_latches (backgroundPipeline_latches cart s c p))

theorem dotAndRequest_preRenderClear (p : Ppu) : dotAndRequest p.preRenderClear = dotAndRequest p := rfl

theorem dotAndRequest_pixelOutput (cart : Option Cartridge) (s c : Nat) (p : Ppu) :
    dotAndRequest (p.pixelOutput cart s c) = dotAndRequest p := rfl

/-- At dot (241, 1) vertical blank begins, and the PPU does nothing else (R403). -/
theorem clock_enterVblank {p : Ppu} (hs : p.scanline = 241) (hc : p.cycle = 1) (cart : Option Cartridge) :
    p.clock cart = p.enterVblank.advance := by
  simp [Ppu.clock, Ppu.doWhen, hs, hc]

/-- At every other dot the parts of the schedule leave the dot and the request to `advance()` (R401). -/
theorem clock_of_not_vblank {p : Ppu} (h : ¬(p.scanline = 241 ∧ p.cycle = 1)) (cart : Option Cartridge) :
    ∃ q, p.clock cart = q.advance ∧ dotAndRequest q = dotAndRequest p := by
  have hvblank : (p.scanline == 241 && p.cycle == 1) = false := by simpa using h
  unfold Ppu.clock
  dsimp only
  rw [hvblank]
  refine ⟨_, rfl, ?_⟩
  refine (doWhen_keeps dotAndRequest (dotAndRequest_pixelOutput cart _ _) _ _).trans ?_
  refine (doWhen_keeps dotAndRequest (dotAndRequest_spriteFetch cart _) _ _).trans ?_
  refine (doWhen_keeps dotAndRequest (dotAndRequest_spriteEvaluation _) _ _).trans ?_
  refine (doWhen_keeps dotAndRequest (dotAndRequest_pipelines cart _ _) _ _).trans ?_
  exact doWhen_keeps dotAndRequest dotAndRequest_preRenderClear _ _

theorem advance_nmiOut (p : Ppu) : p.advance.nmiOut = p.nmiOut := by
  unfold Ppu.advance
  split
  · split <;> rfl
  · rfl

theorem advance_dot_congr {p q : Ppu} (hs : q.scanline = p.scanline) (hc : q.cycle = p.cycle) :
    q.advance.scanline = p.advance.scanline ∧ q.advance.cycle = p.advance.cycle := by
  unfold Ppu.advance
  rw [hs, hc]
  split
  · split <;> exact ⟨rfl, rfl⟩
  · exact ⟨by rw [← hs], rfl⟩

/-- One dot moves on to the next dot, whatever else it does. -/
theorem clock_dot (cart : Option Cartridge) (p : Ppu) :
    (p.clock cart).scanline = p.advance.scanline ∧ (p.clock cart).cycle = p.advance.cycle := by
  by_cases h : p.scanline = 241 ∧ p.cycle = 1
  · rw [clock_enterVblank h.1 h.2]
    exact advance_dot_congr rfl rfl
  · obtain ⟨q, hq, hdot⟩ := clock_of_not_vblank h cart
    simp only [dotAndRequest, Prod.mk.injEq] at hdot
    rw [hq]
    exact advance_dot_congr hdot.1 hdot.2.1

/-- The dot that raises an NMI request, the enable bit being set (R320, R403). -/
def RaisesNmi (p : Ppu) : Prop := p.scanline = 241 ∧ p.cycle = 1 ∧ p.ctrl.getLsbD 7 = true

theorem clock_nmiOut_iff {p : Ppu} (hp : p.nmiOut = false) (cart : Option Cartridge) :
    (p.clock cart).nmiOut = true ↔ RaisesNmi p := by
  by_cases h : p.scanline = 241 ∧ p.cycle = 1
  · rw [clock_enterVblank h.1 h.2, advance_nmiOut]
    simp [Ppu.enterVblank, Ppu.enableNmi, RaisesNmi, hp, h]
  · obtain ⟨q, hq, hdot⟩ := clock_of_not_vblank h cart
    simp only [dotAndRequest, Prod.mk.injEq] at hdot
    rw [hq, advance_nmiOut, hdot.2.2, hp]
    simpa [RaisesNmi] using fun hs hc => absurd ⟨hs, hc⟩ h

/-- The dots of a frame are gone through in order, 341 to a scanline and 262 scanlines to a frame (R401). -/
theorem dotIndex_advance {p : Ppu} (hge : -1 ≤ p.scanline) (hle : p.scanline ≤ 260) (hc : p.cycle ≤ 340) :
    dotIndex p.advance = (dotIndex p + 1) % 89342 := by
  unfold Ppu.advance
  split
  · split <;> (simp only [dotIndex]; omega)
  · simp only [dotIndex]
    omega

end Sys2Proof.Proofs
end

section
/-! One step by its parts (R350): the counters of the Bus clock (R351, R352, R365), the NMI delivery (R353), and the
three branches of the CPU slot away from a fetch (R360). -/

namespace Sys2Proof.Proofs

open Sys2Proof.Machine Sys2Proof.Laws

/-- The NMI delivery where a request stands (R353): the request is cleared and the entry taken. -/
theorem deliverNmi_of_request {s : State} (h : s.ppu.nmiOut = true) : deliverNmi s = cpuNmi (setNmiOut false s) :=
  if_pos h

theorem deliverNmi_of_no_request {s : State} (h : s.ppu.nmiOut = false) : deliverNmi s = s :=
  if_neg (by simp [h])

theorem cpuNmi_eq (s : State) :
    cpuNmi s =
      { s with
        cpu := { s.cpu with sp := s.cpu.sp - 3#8, pc := peekWord nmiVector s, cycles := 7 }
        bus :=
          { s.bus with
            ram :=
              pushedRam s.bus.ram s.cpu.sp
                [hiByte s.cpu.pc, loByte s.cpu.pc, (s.cpu.p &&& 0xEF#8) ||| 0x20#8] } } :=
  cpuNmi_enters s

theorem counters_deliverNmi (s : State) : counters (deliverNmi s) = counters s := by
  cases h : s.ppu.nmiOut
  · rw [deliverNmi_of_no_request h]
  · rw [deliverNmi_of_request h, cpuNmi_eq]
    rfl

theorem deliverNmi_dma (s : State) : (deliverNmi s).bus.dma = s.bus.dma := by
  cases h : s.ppu.nmiOut
  · rw [deliverNmi_of_no_request h]
  · rw [deliverNmi_of_request h, cpuNmi_eq]
    rfl

/-- The APU's tick may follow the NMI delivery, so steps 3 to 6 of `Bus.clock()` are the delivery and then work outside
the CPU and its memory. -/
theorem afterSlot_eq (s : State) : afterSlot s = countDot (sampleTick (apuTick (deliverNmi s))) := by
  rw [afterSlot, deliverNmi_apuTick]

theorem afterSlot_dma (s : State) : (afterSlot s).bus.dma = s.bus.dma := by
  rw [afterSlot_eq]
  exact deliverNmi_dma s

/-- The sample accumulator after one step (R365). -/
def nextSampleAcc (acc : Nat) : Nat :=
  if Config.dotRateHz ≤ acc + Config.sampleRateHz then acc + Config.sampleRateHz - Config.dotRateHz
  else acc + Config.sampleRateHz

theorem sampleTick_sampleAcc (s : State) : (sampleTick s).bus.sampleAcc = nextSampleAcc s.bus.sampleAcc := by
  by_cases hdue : Config.dotRateHz ≤ s.bus.sampleAcc + Config.sampleRateHz <;>
    simp [sampleTick, sampleDue, nextSampleAcc, hdue]

theorem counters_afterSlot (s : State) :
    counters (afterSlot s) =
      { counters s with sysClock := s.bus.sysClock + 1, sampleAcc := nextSampleAcc s.bus.sampleAcc } := by
  have hcount : ∀ u, counters (countDot (sampleTick (apuTick u))) =
      { counters u with
        sysClock := (counters u).sysClock + 1, sampleAcc := nextSampleAcc (counters u).sampleAcc } := fun u => by
    rw [counters, countDot, sampleTick_sampleAcc]
    rfl
  rw [afterSlot_eq, hcount, counters_deliverNmi]
  rfl

theorem step_of_cpuSlot {s u : State} (h : cpuSlot (ppuTick s) = .next u) : step s = .next (afterSlot u) := by
  rw [step, busClock, h]

theorem step_off_slot {s : State} (h : s.bus.sysClock % 3 ≠ 0) : step s = .next (afterSlot (ppuTick s)) :=
  step_of_cpuSlot (if_neg h)

/-- A step completes: the CPU's cycle of its slot, one dot, the sample accumulator, and the next dot of the frame. -/
theorem step_counters (s : State) :
    ∃ t,
      step s = .next t ∧
        counters t =
          ⟨s.cpu.clockCount + slotCycles s, s.bus.sysClock + 1, nextSampleAcc s.bus.sampleAcc, s.ppu.advance.scanline,
            s.ppu.advance.cycle⟩ := by
  obtain ⟨u, hslot, hu⟩ := cpuSlot_counters (ppuTick s)
  obtain ⟨hscanline, hcycle⟩ := clock_dot s.cart s.ppu
  have hdot : counters (ppuTick s) =
      ⟨s.cpu.clockCount, s.bus.sysClock, s.bus.sampleAcc, s.ppu.advance.scanline, s.ppu.advance.cycle⟩ := by
    simp only [counters, ppuTick, hscanline, hcycle]
  have hsys : u.bus.sysClock = s.bus.sysClock := congrArg Counters.sysClock hu
  have hacc : u.bus.sampleAcc = s.bus.sampleAcc := congrArg Counters.sampleAcc hu
  refine ⟨_, step_of_cpuSlot hslot, ?_⟩
  rw [counters_afterSlot, hu, hdot, hsys, hacc]
  rfl

/-- What one step from the invariant does to the three clocks of R351 and R352. Off the slot no DMA starts or ends. -/
theorem step_clocks {s : State} (h : s.Inv) :
    ∃ t,
      step s = .next t ∧ t.Inv ∧ t.cpu.clockCount = s.cpu.clockCount + slotCycles s ∧
        t.bus.sysClock = s.bus.sysClock + 1 ∧ dotIndex t.ppu = (dotIndex s.ppu + 1) % 89342 ∧
          (s.bus.sysClock % 3 ≠ 0 → t.bus.dma = s.bus.dma) := by
  obtain ⟨t, hstep, ht⟩ := step_counters s
  have hscanline : t.ppu.scanline = s.ppu.advance.scanline := congrArg Counters.scanline ht
  have hcycle : t.ppu.cycle = s.ppu.advance.cycle := congrArg Counters.cycle ht
  have hdot : dotIndex t.ppu = dotIndex s.ppu.advance := by rw [dotIndex, hscanline, hcycle, dotIndex]
  refine ⟨t, hstep, stepKeepsInvariant s t h hstep, congrArg Counters.clockCount ht, congrArg Counters.sysClock ht,
    hdot.trans (dotIndex_advance h.ppu.scanlineGe h.ppu.scanlineLe h.ppu.cycleLe), fun hoff => ?_⟩
  cases hstep.symm.trans (step_off_slot hoff)
  exact afterSlot_dma (ppuTick s)

theorem slotCycles_off_slot {s : State} (h : s.bus.sysClock % 3 ≠ 0) : slotCycles s = 0 := if_neg fun h' => h h'.1

theorem slotCycles_on_slot {s : State} (h : s.bus.sysClock % 3 = 0) :
    slotCycles s = if s.bus.dma.active then 0 else 1 := by
  cases hdma : s.bus.dma.active <;> simp [slotCycles, h, hdma]

/-- Settles O8: of three steps in a row exactly one has the slot, and a DMA seen there was active from the start. -/
theorem threeClocksOneCpuCycle : Obligations.ThreeClocksOneCpuCycle := by
  intro s h
  obtain ⟨t1, hstep1, h1, hcpu1, hsys1, hdot1, hdma1⟩ := step_clocks h
  obtain ⟨t2, hstep2, h2, hcpu2, hsys2, hdot2, hdma2⟩ := step_clocks h1
  obtain ⟨t3, hstep3, -, hcpu3, hsys3, hdot3, -⟩ := step_clocks h2
  have hrun : stepN 3 s = .next t3 := by simp only [stepN, hstep1, hstep2, hstep3]
  have hcycles : slotCycles s + slotCycles t1 + slotCycles t2 = if s.bus.dma.active then 0 else 1 := by
    obtain hr | hr | hr : s.bus.sysClock % 3 = 0 ∨ s.bus.sysClock % 3 = 2 ∨ s.bus.sysClock % 3 = 1 := by omega
    · rw [slotCycles_on_slot hr, slotCycles_off_slot (s := t1) (by omega), slotCycles_off_slot (s := t2) (by omega),
        Nat.add_zero]
    · rw [slotCycles_off_slot (s := s) (by omega), slotCycles_on_slot (s := t1) (by omega),
        slotCycles_off_slot (s := t2) (by omega), hdma1 (by omega), Nat.zero_add, Nat.add_zero]
    · rw [slotCycles_off_slot (s := s) (by omega), slotCycles_off_slot (s := t1) (by omega),
        slotCycles_on_slot (s := t2) (by omega), hdma2 (by omega), hdma1 (by omega), Nat.zero_add]
  exact ⟨t3, hrun, by omega, by omega, by omega⟩

/-- A whole `d` carried out of an accumulator is one more in the quotient. -/
theorem carry_add_div {d : Nat} (hd : 0 < d) (a m : Nat) :
    (if d ≤ a then 1 else 0) + ((if d ≤ a then a - d else a) + m) / d = (a + m) / d := by
  split
  · next h =>
    have hcarry : a + m = a - d + m + d := by omega
    rw [hcarry, Nat.add_div_right _ hd, Nat.add_comm]
  · exact Nat.zero_add _

/-- Settles O55: each step adds the rate to the accumulator and takes the dot rate off where it completes a sample. -/
theorem sampleCount : Obligations.SampleCount := by
  intro n
  induction n with
  | zero =>
    intro s h
    have hacc : s.bus.sampleAcc < 5369318 := h.bus.sampleAcc
    rw [samplesIn, Nat.zero_mul, Nat.add_zero, Nat.div_eq_of_lt hacc]
  | succ n ih =>
    intro s h
    obtain ⟨t, hstep, ht⟩ := step_counters s
    have hacc : t.bus.sampleAcc = nextSampleAcc s.bus.sampleAcc := congrArg Counters.sampleAcc ht
    have hready : sampleReady s = decide (5369318 ≤ s.bus.sampleAcc + Config.sampleRateHz) := rfl
    calc samplesIn (n + 1) s
        = (if sampleReady s then 1 else 0) + samplesIn n t := by simp only [samplesIn, hstep]
      _ = (if 5369318 ≤ s.bus.sampleAcc + Config.sampleRateHz then 1 else 0) +
            (nextSampleAcc s.bus.sampleAcc + n * Config.sampleRateHz) / 5369318 := by
          rw [ih t (stepKeepsInvariant s t h hstep), hacc, hready]
          simp only [decide_eq_true_eq]
      _ = (s.bus.sampleAcc + Config.sampleRateHz + n * Config.sampleRateHz) / 5369318 :=
          carry_add_div (Nat.succ_pos _) _ _
      _ = (s.bus.sampleAcc + (n + 1) * Config.sampleRateHz) / 5369318 := by
          rw [Nat.succ_mul, Nat.add_assoc, Nat.add_comm Config.sampleRateHz]

theorem setNmiOut_self (s : State) : setNmiOut s.ppu.nmiOut s = s := rfl

/-- The CPU slot neither raises nor clears a request (R353). -/
theorem cpuSlot_nmiOut {s u : State} (h : cpuSlot s = .next u) : u.ppu.nmiOut = s.ppu.nmiOut := by
  have hsame := cpuSlot_setNmiOut s.ppu.nmiOut s
  rw [setNmiOut_self, h] at hsame
  exact congrArg (·.ppu.nmiOut) (Host.Outcome.next.inj hsame)

/-- Settles O29: the slot neither raises nor clears the request that the dot left, and the delivery follows it. -/
theorem nmiDelivery : Obligations.NmiDelivery := by
  intro s hnone
  obtain ⟨u, hslot⟩ := cpuSlot_next (ppuTick s)
  have hrequest : u.ppu.nmiOut = true ↔ RaisesNmi s.ppu := by
    rw [cpuSlot_nmiOut hslot]
    exact clock_nmiOut_iff hnone s.cart
  refine ⟨u, _, hslot, step_of_cpuSlot hslot, ?_⟩
  rw [afterSlot_eq]
  by_cases hraise : RaisesNmi s.ppu
  · rw [deliverNmi_of_request (hrequest.mpr hraise), cpuNmi_eq]
    exact ⟨rfl, fun _ => ⟨rfl, rfl⟩, fun h => absurd hraise h⟩
  · have hu : u.ppu.nmiOut = false := Bool.eq_false_iff.mpr fun h => hraise (hrequest.mp h)
    rw [deliverNmi_of_no_request hu]
    exact ⟨hu, fun h => absurd h hraise, fun _ => ⟨rfl, rfl⟩⟩

/-- Settles O7: the three branches of the slot, and steps 3 to 6 with no NMI to deliver. -/
theorem clockWithoutFetch : Obligations.ClockWithoutFetch := by
  intro s
  refine ⟨step_off_slot, fun hslot hdma => ?dma, fun hslot hdma hcycles => ?countdown, fun hnone => ?after⟩
  case dma => exact step_of_cpuSlot ((if_pos hslot).trans (if_pos hdma))
  case countdown =>
    have hclock : cpuClock (ppuTick s) = .next (countCycle (ppuTick s)) := if_neg (Nat.ne_of_gt hcycles)
    have hidle : ¬s.bus.dma.active = true := by simp [hdma]
    exact step_of_cpuSlot ((if_pos hslot).trans ((if_neg hidle).trans hclock))
  case after =>
    rw [afterSlot_eq, deliverNmi_of_no_request hnone]
    by_cases hdue : 5369318 ≤ s.bus.sampleAcc + Config.sampleRateHz
    · simp [countDot, sampleTick, apuTick, sampleDue, Config.dotRateHz, hdue, Nat.not_lt.mpr hdue]
    · simp [countDot, sampleTick, apuTick, sampleDue, Config.dotRateHz, hdue, Nat.lt_of_not_le hdue]

end Sys2Proof.Proofs
end

section
/-! The controllers (R355 to R358): the strobe, and the serial registers over any number of reads. -/

namespace Sys2Proof.Proofs

open Sys2Proof.Machine Sys2Proof.Laws

/-- A read of a controller moves each bit up by one and brings a 1 in at bit 0 (R357). -/
theorem getLsbD_padShift (b : Byte) {i : Nat} (hi : i < 8) :
    (padShift b).getLsbD i = if i = 0 then true else b.getLsbD (i - 1) := by
  rw [padShift, BitVec.getLsbD_or, BitVec.getLsbD_shiftLeft, BitVec.getLsbD_one]
  by_cases h : i = 0
  · simp [h]
  · simp [h, hi]

/-- After `j` reads the bit at `i` is the one that was `j` below, or a 1 that was brought in. -/
theorem getLsbD_iterate_padShift (b : Byte) (j : Nat) {i : Nat} (hi : i < 8) :
    (padShift^[j] b).getLsbD i = if j ≤ i then b.getLsbD (i - j) else true := by
  induction j generalizing i with
  | zero => simp
  | succ j ih =>
    rw [Function.iterate_succ_apply', getLsbD_padShift _ hi]
    by_cases h : i = 0
    · simp [h]
    · rw [if_neg h, ih (i := i - 1) (by omega)]
      have hle : j ≤ i - 1 ↔ j + 1 ≤ i := by omega
      have hsub : i - 1 - j = i - (j + 1) := by omega
      simp only [hle, hsub]

/-- The byte of the read after `j` others: button `j` from bit 7 down, and 1 after eight (R357). -/
theorem padByte_iterate_padShift (b : Byte) (j : Nat) :
    padByte (padShift^[j] b) = if j < 8 then (if b.getLsbD (7 - j) then 1#8 else 0#8) else 1#8 := by
  rw [padByte, getLsbD_iterate_padShift b j (by decide)]
  by_cases h : j < 8
  · rw [if_pos h, if_pos (Nat.le_of_lt_succ h)]
    rfl
  · rw [if_neg h, if_neg (by omega)]
    rfl

theorem readTimes_pad0 (n : Nat) (s : State) :
    readTimes 0x4016#16 n s = { s with bus := { s.bus with shift0 := padShift^[n] s.bus.shift0 } } := by
  induction n generalizing s with
  | zero => rfl
  | succ n ih => exact ih _

theorem readTimes_pad1 (n : Nat) (s : State) :
    readTimes 0x4017#16 n s = { s with bus := { s.bus with shift1 := padShift^[n] s.bus.shift1 } } := by
  induction n generalizing s with
  | zero => rfl
  | succ n ih => exact ih _

/-- A write of 0x4016 with bit 0 set takes a snapshot of both button latches (R356). -/
theorem cpuWrite_strobe_set {v : Byte} (h : v.getLsbD 0 = true) (s : State) :
    cpuWrite 0x4016#16 v s =
      { s with
        bus := { s.bus with strobe := true, shift0 := s.bus.controller0, shift1 := s.bus.controller1 } } := by
  have hwrite : cpuWrite 0x4016#16 v s = { s with bus := writeStrobe v s.bus } := rfl
  rw [hwrite, writeStrobe, if_pos h]

theorem cpuWrite_strobe_clear {v : Byte} (h : v.getLsbD 0 = false) (s : State) :
    cpuWrite 0x4016#16 v s = { s with bus := { s.bus with strobe := false } } := by
  have hwrite : cpuWrite 0x4016#16 v s = { s with bus := writeStrobe v s.bus } := rfl
  rw [hwrite, writeStrobe, if_neg (Bool.eq_false_iff.mp h)]

/-- Settles O36: the write by its bit 0, and each port's reads by its own serial register. -/
theorem controllerReads : Obligations.ControllerReads := by
  intro s v j k
  refine ⟨?strobe, fun h => cpuWrite_strobe_clear h s, fun h => ?reads⟩
  case strobe =>
    cases h : v.getLsbD 0
    · rw [cpuWrite_strobe_clear h]
    · rw [cpuWrite_strobe_set h]
  case reads =>
    simp only [cpuWrite_strobe_set h, readTimes_pad1, readTimes_pad0]
    exact ⟨padByte_iterate_padShift s.bus.controller0 j, padByte_iterate_padShift s.bus.controller1 k⟩

end Sys2Proof.Proofs
end

section
/-! OAM DMA (R360 to R363): the slots of the engine, and the copy of a page of memory. -/

namespace Sys2Proof.Proofs

open Sys2Proof.Machine Sys2Proof.Laws

/-! ## One slot -/

@[simp] theorem memRead_dma (a : Word) (s : State) : (memRead a s).2.bus.dma = s.bus.dma := by
  obtain ⟨_, _, _, _, _, _, h⟩ := cpuRead_eq a false s
  rw [memRead, h]

/-- The slots before the copy: the engine waits for an odd one (R362). -/
theorem dmaStep_dummy {s : State} (h : s.bus.dma.dummy = true) :
    dmaStep s =
      if s.bus.sysClock % 2 = 1 then { s with bus := { s.bus with dma := { s.bus.dma with dummy := false } } }
      else s :=
  if_pos h

/-- A reading slot (R361). -/
theorem dmaStep_read {s : State} (h : s.bus.dma.dummy = false) (heven : s.bus.sysClock % 2 = 0) :
    dmaStep s =
      { (memRead (wordOf s.bus.dma.addr s.bus.dma.page) s).2 with
        bus :=
          { (memRead (wordOf s.bus.dma.addr s.bus.dma.page) s).2.bus with
            dma := { s.bus.dma with data := (memRead (wordOf s.bus.dma.addr s.bus.dma.page) s).1 } } } := by
  rw [dmaStep, if_neg (by simp [h]), if_pos heven, dmaRead, memRead_dma]

/-- A writing slot (R361): the engine stops after address 0xFF. -/
theorem dmaStep_write {s : State} (h : s.bus.dma.dummy = false) (hodd : s.bus.sysClock % 2 = 1) :
    dmaStep s =
      { s with
        ppu := s.ppu.writeOamData s.bus.dma.data
        bus :=
          { s.bus with
            dma :=
              { s.bus.dma with
                addr := s.bus.dma.addr + 1#8
                active := decide (s.bus.dma.addr ≠ 0xFF#8)
                dummy := decide (s.bus.dma.addr = 0xFF#8) } } } := by
  have hlast : (s.bus.dma.addr + 1#8 == 0#8) = decide (s.bus.dma.addr = 0xFF#8) := by
    rw [Bool.beq_eq_decide_eq, decide_eq_decide]
    bv_omega
  rw [dmaStep, if_neg (by simp [h]), if_neg (by omega), dmaWrite]
  simp only [hlast, h, Bool.or_false, decide_not]

/-- Settles O37: the write of 0x4014, and the slot by its three branches. -/
theorem dmaSteps : Obligations.DmaSteps :=
  fun _ _ => ⟨rfl, dmaStep_dummy, dmaStep_read, dmaStep_write⟩

/-! ## The whole copy -/

theorem dmaSlots_add (m n : Nat) (s : State) : dmaSlots (m + n) s = dmaSlots n (dmaSlots m s) := by
  induction m generalizing s with
  | zero => rw [Nat.zero_add, dmaSlots]
  | succ m ih => rw [Nat.succ_add]; exact ih _

/-- The three dots from one slot to the next (R351). -/
def passSlot (s : State) : State := { s with bus := { s.bus with sysClock := s.bus.sysClock + 3 } }

theorem dmaSlots_succ (n : Nat) (s : State) : dmaSlots (n + 1) s = dmaSlots n (passSlot (dmaStep s)) := rfl

/-- The byte that the engine holds between its two slots (R361). -/
def setDmaData (b : Byte) (s : State) : State :=
  { s with bus := { s.bus with dma := { s.bus.dma with data := b } } }

/-- A copy of page `v` of the memory of `s`, begun on it and `n` bytes far, at the reading slot of the next byte; after
256 bytes the engine is idle. -/
structure Copied (v : Byte) (s : State) (n : Nat) (t : State) : Prop where
  even : t.bus.sysClock % 2 = 0
  active : t.bus.dma.active = decide (n < 256)
  dummy : t.bus.dma.dummy = decide (256 ≤ n)
  page : t.bus.dma.page = v
  addr : t.bus.dma.addr = BitVec.ofNat 8 n
  oamAddr : t.ppu.oamAddr = s.ppu.oamAddr + BitVec.ofNat 8 n
  oamWf : t.ppu.oam.wf = true
  oam : ∀ k < n, Memory.read t.ppu.oam (s.ppu.oamAddr + BitVec.ofNat 8 k).toNat = peek (wordOf (BitVec.ofNat 8 k) v) s
  ram : t.bus.ram = s.bus.ram
  cart : t.cart = s.cart
  cpu : t.cpu = s.cpu

/-- A reading and a writing slot together, where the byte read lies in memory. -/
theorem dmaSlots_two {s : State} (hdummy : s.bus.dma.dummy = false) (heven : s.bus.sysClock % 2 = 0)
    (hmem : IsMemory (wordOf s.bus.dma.addr s.bus.dma.page)) :
    dmaSlots 2 s =
      { s with
        ppu := s.ppu.writeOamData (peek (wordOf s.bus.dma.addr s.bus.dma.page) s)
        bus :=
          { s.bus with
            sysClock := s.bus.sysClock + 6
            dma :=
              { s.bus.dma with
                addr := s.bus.dma.addr + 1#8
                active := decide (s.bus.dma.addr ≠ 0xFF#8)
                dummy := decide (s.bus.dma.addr = 0xFF#8)
                data := peek (wordOf s.bus.dma.addr s.bus.dma.page) s } } } := by
  have hodd : (s.bus.sysClock + 3) % 2 = 1 := by omega
  have hread : dmaStep s = setDmaData (peek (wordOf s.bus.dma.addr s.bus.dma.page) s) s := by
    rw [dmaStep_read hdummy heven, memRead_plain hmem]
    rfl
  have hwrite := dmaStep_write (s := passSlot (setDmaData (peek (wordOf s.bus.dma.addr s.bus.dma.page) s) s)) hdummy
    hodd
  rw [dmaSlots_succ, hread, dmaSlots_succ, hwrite]
  rfl

/-- Fewer than 256 bytes on, OAM is at another address. -/
theorem oamAddr_ne {k n : Nat} (a : Byte) (hk : k < n) (hn : n < 256) :
    (a + BitVec.ofNat 8 k).toNat ≠ (a + BitVec.ofNat 8 n).toNat := by
  bv_omega

/-- Two slots copy one byte more. -/
theorem Copied.next {v : Byte} {s t : State} {n : Nat} (h : Copied v s n t) (hn : n < 256)
    (hmem : ∀ k : Byte, IsMemory (wordOf k v)) : Copied v s (n + 1) (dmaSlots 2 t) := by
  have hdummy : t.bus.dma.dummy = false := by rw [h.dummy, decide_eq_false (by omega)]
  have hlast : t.bus.dma.addr = 0xFF#8 ↔ 256 ≤ n + 1 := by rw [h.addr]; bv_omega
  have hbyte : peek (wordOf t.bus.dma.addr t.bus.dma.page) t = peek (wordOf (BitVec.ofNat 8 n) v) s := by
    rw [h.addr, h.page]
    exact peek_memory (hmem _) h.ram (by rw [h.cart])
  rw [dmaSlots_two hdummy h.even (by rw [h.page]; exact hmem _), hbyte]
  exact
    { even := (by have := h.even; omega : (t.bus.sysClock + 6) % 2 = 0)
      active := decide_eq_decide.mpr (by rw [ne_eq, hlast]; omega)
      dummy := decide_eq_decide.mpr hlast
      page := h.page
      addr := by rw [h.addr, BitVec.ofNat_add]
      oamAddr := (congrArg (· + 1#8) h.oamAddr).trans (by rw [BitVec.ofNat_add, BitVec.add_assoc])
      oamWf := memory_wf_write h.oamWf _ _
      oam := fun k hk => by
        rw [Ppu.writeOamData, h.oamAddr]
        rcases Nat.lt_succ_iff_lt_or_eq.mp hk with hk | rfl
        · exact (memory_read_write_other _ _ (oamAddr_ne _ hk hn)).trans (h.oam k hk)
        · exact memory_read_write_same h.oamWf _ _
      ram := h.ram
      cart := h.cart
      cpu := h.cpu }

/-- The 512 slots of the copy, two by two. -/
theorem Copied.slots {v : Byte} {s t : State} (h : Copied v s 0 t) (hmem : ∀ k : Byte, IsMemory (wordOf k v)) :
    ∀ n ≤ 256, Copied v s n (dmaSlots (2 * n) t) := by
  intro n
  induction n with
  | zero => exact fun _ => h
  | succ n ih =>
    intro hn
    rw [Nat.mul_succ, dmaSlots_add]
    exact (ih (by omega)).next (by omega) hmem

/-- The write of 0x4014 and the slots up to an odd one, one or two, bring the engine to its first reading slot
(R362). -/
theorem dmaSlots_align (v : Byte) (s : State) :
    dmaSlots (if s.bus.sysClock % 2 = 1 then 1 else 2) (cpuWrite 0x4014#16 v s) =
      { s with
        bus :=
          { s.bus with
            sysClock := s.bus.sysClock + if s.bus.sysClock % 2 = 1 then 3 else 6
            dma := { s.bus.dma with active := true, dummy := false, page := v, addr := 0#8 } } } := by
  by_cases hodd : s.bus.sysClock % 2 = 1
  · have hready : dmaStep (cpuWrite 0x4014#16 v s) = _ := (dmaStep_dummy rfl).trans (if_pos hodd)
    rw [if_pos hodd, if_pos hodd, dmaSlots_succ, hready]
    rfl
  · have hnext : (s.bus.sysClock + 3) % 2 = 1 := by omega
    have hwait : dmaStep (cpuWrite 0x4014#16 v s) = _ := (dmaStep_dummy rfl).trans (if_neg hodd)
    have hready : dmaStep (passSlot (cpuWrite 0x4014#16 v s)) = _ := (dmaStep_dummy rfl).trans (if_pos hnext)
    rw [if_neg hodd, if_neg hodd, dmaSlots_succ, hwait, dmaSlots_succ, hready]
    rfl

/-- Aligned, the engine has copied nothing yet. -/
theorem copied_zero (v : Byte) {s : State} (h : s.Inv) :
    Copied v s 0 (dmaSlots (if s.bus.sysClock % 2 = 1 then 1 else 2) (cpuWrite 0x4014#16 v s)) := by
  have heven : (s.bus.sysClock + if s.bus.sysClock % 2 = 1 then 3 else 6) % 2 = 0 := by split <;> omega
  rw [dmaSlots_align]
  exact
    { even := heven
      active := rfl
      dummy := rfl
      page := rfl
      addr := rfl
      oamAddr := (BitVec.add_zero _).symm
      oamWf := h.ppu.oam.wf
      oam := fun k hk => absurd hk (Nat.not_lt_zero k)
      ram := rfl
      cart := rfl
      cpu := rfl }

/-- Settles O38: one or two slots to align, then two for each byte. -/
theorem dmaCopiesThePage : Obligations.DmaCopiesThePage := by
  intro v s h hmem
  have hslots : (if s.bus.sysClock % 2 = 1 then 513 else 514) =
      (if s.bus.sysClock % 2 = 1 then 1 else 2) + 2 * 256 := by
    split <;> rfl
  have hcopied := (copied_zero v h).slots hmem 256 (Nat.le_refl _)
  rw [← dmaSlots_add, ← hslots] at hcopied
  refine ⟨hcopied.active, ?_, fun k => ?_, hcopied.ram, hcopied.cpu⟩
  · rw [hcopied.oamAddr]
    exact BitVec.add_zero _
  · have hk := hcopied.oam k.toNat k.isLt
    rwa [BitVec.ofNat_toNat, BitVec.setWidth_eq] at hk

end Sys2Proof.Proofs
end

section
/-! The loopy register by its fields (R47): two registers with the same fields are the same, and each field of a bitwise
operation, of a literal and of a value placed at the bits of a field. Then the writes and increments of fields as
equations (R389, R390, R393, R415 to R418). -/

namespace Sys2Proof.Proofs

open Sys2Proof.Machine Sys2Proof.Laws

/-- Two loopy registers with the same fields are the same. -/
theorem loopy_ext {v w : Loopy} (hcx : coarseX v = coarseX w) (hcy : coarseY v = coarseY w)
    (hnx : nametableX v = nametableX w) (hny : nametableY v = nametableY w) (hfy : fineY v = fineY w) : v = w := by
  apply BitVec.eq_of_getLsbD_eq
  intro i hi
  have bit {n : Nat} (s : Nat) (h : v.extractLsb' s n = w.extractLsb' s n) (h0 : s ≤ i) (h1 : i < s + n) :
      v.getLsbD i = w.getLsbD i := by
    have := congrArg (·.getLsbD (i - s)) h
    simpa [show i - s < n by omega, show s + (i - s) = i by omega] using this
  by_cases h4 : i < 5
  · exact bit 0 hcx (Nat.zero_le i) (by omega)
  by_cases h9 : i < 10
  · exact bit 5 hcy (by omega) (by omega)
  by_cases h10 : i = 10
  · exact h10 ▸ hnx
  by_cases h11 : i = 11
  · exact h11 ▸ hny
  · exact bit 12 hfy (by omega) (by omega)

/-! ## The fields of bitwise operations, literals and placed values -/

section Bitwise
variable (v w : Loopy)

@[simp] theorem coarseX_and : coarseX (v &&& w) = coarseX v &&& coarseX w := BitVec.extractLsb'_and
@[simp] theorem coarseY_and : coarseY (v &&& w) = coarseY v &&& coarseY w := BitVec.extractLsb'_and
@[simp] theorem fineY_and : fineY (v &&& w) = (fineY v &&& fineY w) := BitVec.extractLsb'_and
@[simp] theorem nametableX_and : nametableX (v &&& w) = (nametableX v && nametableX w) := BitVec.getLsbD_and
@[simp] theorem nametableY_and : nametableY (v &&& w) = (nametableY v && nametableY w) := BitVec.getLsbD_and

@[simp] theorem coarseX_or : coarseX (v ||| w) = coarseX v ||| coarseX w := BitVec.extractLsb'_or
@[simp] theorem coarseY_or : coarseY (v ||| w) = coarseY v ||| coarseY w := BitVec.extractLsb'_or
@[simp] theorem fineY_or : fineY (v ||| w) = fineY v ||| fineY w := BitVec.extractLsb'_or
@[simp] theorem nametableX_or : nametableX (v ||| w) = (nametableX v || nametableX w) := BitVec.getLsbD_or
@[simp] theorem nametableY_or : nametableY (v ||| w) = (nametableY v || nametableY w) := BitVec.getLsbD_or

@[simp] theorem coarseX_xor : coarseX (v ^^^ w) = coarseX v ^^^ coarseX w := BitVec.extractLsb'_xor
@[simp] theorem coarseY_xor : coarseY (v ^^^ w) = coarseY v ^^^ coarseY w := BitVec.extractLsb'_xor
@[simp] theorem fineY_xor : fineY (v ^^^ w) = fineY v ^^^ fineY w := BitVec.extractLsb'_xor
@[simp] theorem nametableX_xor : nametableX (v ^^^ w) = (nametableX v ^^ nametableX w) := BitVec.getLsbD_xor
@[simp] theorem nametableY_xor : nametableY (v ^^^ w) = (nametableY v ^^ nametableY w) := BitVec.getLsbD_xor

variable (c : Prop) [Decidable c]

@[simp] theorem coarseX_ite : coarseX (if c then v else w) = if c then coarseX v else coarseX w := apply_ite ..
@[simp] theorem coarseY_ite : coarseY (if c then v else w) = if c then coarseY v else coarseY w := apply_ite ..
@[simp] theorem fineY_ite : fineY (if c then v else w) = if c then fineY v else fineY w := apply_ite ..
@[simp] theorem nametableX_ite : nametableX (if c then v else w) = if c then nametableX v else nametableX w :=
  apply_ite ..
@[simp] theorem nametableY_ite : nametableY (if c then v else w) = if c then nametableY v else nametableY w :=
  apply_ite ..

end Bitwise

section Literal
variable (n : Nat)

theorem extractLsb'_ofNat {w s l : Nat} (h : s + l ≤ w) :
    (BitVec.ofNat w n).extractLsb' s l = BitVec.ofNat l (n / 2 ^ s) := by
  apply BitVec.eq_of_getLsbD_eq
  intro i hi
  rw [BitVec.getLsbD_extractLsb', BitVec.getLsbD_ofNat, BitVec.getLsbD_ofNat, Nat.testBit_div_two_pow]
  simp [hi, show s + i < w by omega, Nat.add_comm]

@[simp] theorem coarseX_ofNat : coarseX (BitVec.ofNat 15 n) = BitVec.ofNat 5 (n / 2 ^ 0) :=
  extractLsb'_ofNat n (by decide)
@[simp] theorem coarseY_ofNat : coarseY (BitVec.ofNat 15 n) = BitVec.ofNat 5 (n / 2 ^ 5) :=
  extractLsb'_ofNat n (by decide)
@[simp] theorem fineY_ofNat : fineY (BitVec.ofNat 15 n) = BitVec.ofNat 3 (n / 2 ^ 12) :=
  extractLsb'_ofNat n (by decide)
@[simp] theorem nametableX_ofNat : nametableX (BitVec.ofNat 15 n) = decide (n / 2 ^ 10 % 2 = 1) := by
  rw [nametableX, BitVec.getLsbD_ofNat, Nat.testBit_eq_decide_div_mod_eq]
  rfl
@[simp] theorem nametableY_ofNat : nametableY (BitVec.ofNat 15 n) = decide (n / 2 ^ 11 % 2 = 1) := by
  rw [nametableY, BitVec.getLsbD_ofNat, Nat.testBit_eq_decide_div_mod_eq]
  rfl

end Literal

@[simp] theorem and_allFive (c : BitVec 5) : c &&& 31#5 = c := BitVec.and_allOnes
@[simp] theorem and_allThree (f : BitVec 3) : f &&& 7#3 = f := BitVec.and_allOnes

section Placed
variable {n : Nat} (x : BitVec n)

/-- Outside the bits where it is placed, a value gives zeros. -/
theorem getLsbD_placed_other {k i : Nat} (h : i < k ∨ k + n ≤ i) : (x.setWidth 15 <<< k).getLsbD i = false := by
  rw [BitVec.getLsbD_shiftLeft, BitVec.getLsbD_setWidth]
  rcases h with h | h
  · simp [h]
  · simp [BitVec.getLsbD_of_ge x (i - k) (by omega)]

theorem extractLsb'_placed_other {k s l : Nat} (h : s + l ≤ k ∨ k + n ≤ s) :
    (x.setWidth 15 <<< k).extractLsb' s l = 0#l := by
  apply BitVec.eq_of_getLsbD_eq
  intro i hi
  rw [BitVec.getLsbD_extractLsb', getLsbD_placed_other x (by omega)]
  simp

theorem extractLsb'_placed_same {k : Nat} (h : k + n ≤ 15) : (x.setWidth 15 <<< k).extractLsb' k n = x := by
  apply BitVec.eq_of_getLsbD_eq
  intro i hi
  simp [hi, show k + i < 15 by omega]

end Placed

/-! A value at the bits of coarse X, of coarse Y, of fine Y, and of the two nametable bits. -/

section PlacedFields
variable (c : BitVec 5) (f : BitVec 3) (d : BitVec 2)

@[simp] theorem coarseX_placedX : coarseX (c.setWidth 15) = c := by
  rw [← BitVec.shiftLeft_zero (c.setWidth 15)]; exact extractLsb'_placed_same c (by decide)
@[simp] theorem coarseY_placedX : coarseY (c.setWidth 15) = 0#5 := by
  rw [← BitVec.shiftLeft_zero (c.setWidth 15)]; exact extractLsb'_placed_other c (by decide)
@[simp] theorem fineY_placedX : fineY (c.setWidth 15) = 0#3 := by
  rw [← BitVec.shiftLeft_zero (c.setWidth 15)]; exact extractLsb'_placed_other c (by decide)
@[simp] theorem nametableX_placedX : nametableX (c.setWidth 15) = false := by
  rw [← BitVec.shiftLeft_zero (c.setWidth 15)]; exact getLsbD_placed_other c (by decide)
@[simp] theorem nametableY_placedX : nametableY (c.setWidth 15) = false := by
  rw [← BitVec.shiftLeft_zero (c.setWidth 15)]; exact getLsbD_placed_other c (by decide)

@[simp] theorem coarseX_placedY : coarseX (c.setWidth 15 <<< 5) = 0#5 := extractLsb'_placed_other c (by decide)
@[simp] theorem coarseY_placedY : coarseY (c.setWidth 15 <<< 5) = c := extractLsb'_placed_same c (by decide)
@[simp] theorem fineY_placedY : fineY (c.setWidth 15 <<< 5) = 0#3 := extractLsb'_placed_other c (by decide)
@[simp] theorem nametableX_placedY : nametableX (c.setWidth 15 <<< 5) = false := getLsbD_placed_other c (by decide)
@[simp] theorem nametableY_placedY : nametableY (c.setWidth 15 <<< 5) = false := getLsbD_placed_other c (by decide)

@[simp] theorem coarseX_placedFine : coarseX (f.setWidth 15 <<< 12) = 0#5 := extractLsb'_placed_other f (by decide)
@[simp] theorem coarseY_placedFine : coarseY (f.setWidth 15 <<< 12) = 0#5 := extractLsb'_placed_other f (by decide)
@[simp] theorem fineY_placedFine : fineY (f.setWidth 15 <<< 12) = f := extractLsb'_placed_same f (by decide)
@[simp] theorem nametableX_placedFine : nametableX (f.setWidth 15 <<< 12) = false := getLsbD_placed_other f (by decide)
@[simp] theorem nametableY_placedFine : nametableY (f.setWidth 15 <<< 12) = false := getLsbD_placed_other f (by decide)

@[simp] theorem coarseX_placedTable : coarseX (d.setWidth 15 <<< 10) = 0#5 := extractLsb'_placed_other d (by decide)
@[simp] theorem coarseY_placedTable : coarseY (d.setWidth 15 <<< 10) = 0#5 := extractLsb'_placed_other d (by decide)
@[simp] theorem fineY_placedTable : fineY (d.setWidth 15 <<< 10) = 0#3 := extractLsb'_placed_other d (by decide)
@[simp] theorem nametableX_placedTable : nametableX (d.setWidth 15 <<< 10) = d.getLsbD 0 := by simp [nametableX]
@[simp] theorem nametableY_placedTable : nametableY (d.setWidth 15 <<< 10) = d.getLsbD 1 := by simp [nametableY]

end PlacedFields


/-! ## The writes of fields -/

theorem transferX_eq (t v : Loopy) : transferX t v = (v &&& 0x7BE0#15) ||| (t &&& 0x041F#15) := by
  apply loopy_ext <;> simp [transferX, setNametableX, setCoarseX]

theorem transferY_eq (t v : Loopy) : transferY t v = (v &&& 0x041F#15) ||| (t &&& 0x7BE0#15) := by
  apply loopy_ext <;> simp [transferY, setNametableY, setCoarseY, setFineY]

theorem setScroll_eq (cx cy : BitVec 5) (f : BitVec 3) (t : Loopy) :
    setCoarseY cy (setFineY f (setCoarseX cx t)) =
      (t &&& 0x0C00#15) ||| cx.setWidth 15 ||| (cy.setWidth 15 <<< 5) ||| (f.setWidth 15 <<< 12) := by
  apply loopy_ext <;> simp [setCoarseX, setCoarseY, setFineY]


theorem setAddress_eq (hi lo : Byte) (t : Loopy) :
    setAddressLow lo (setAddressHigh hi t) = ((hi &&& 0x3F#8).setWidth 15 <<< 8) ||| lo.setWidth 15 := by
  have hkept : (hi &&& 0x3F#8).setWidth 15 <<< 8 &&& 0x7F00#15 = (hi &&& 0x3F#8).setWidth 15 <<< 8 := by
    rw [show 0x7F00#15 = 0x7F#15 <<< 8 from rfl, ← BitVec.shiftLeft_and_distrib, BitVec.setWidth_and, BitVec.and_assoc]
    rfl
  rw [setAddressLow, setAddressHigh, BitVec.and_or_distrib_right, BitVec.and_assoc, hkept]
  simp

/-- The low `k` bits of a byte, as a mask and as a field. -/
theorem setWidth_and_lowMask (b : Byte) {k : Nat} (hk : k ≤ 8) :
    (b &&& BitVec.ofNat 8 (2 ^ k - 1)).setWidth 15 = (b.extractLsb' 0 k).setWidth 15 := by
  apply BitVec.eq_of_toNat_eq
  have : 2 ^ k ≤ 2 ^ 8 := Nat.pow_le_pow_right (by decide) hk
  rw [BitVec.toNat_setWidth, BitVec.toNat_setWidth, BitVec.toNat_and, BitVec.toNat_ofNat,
    Nat.mod_eq_of_lt (show 2 ^ k - 1 < 2 ^ 8 by omega), Nat.and_two_pow_sub_one_eq_mod]
  simp

theorem writeControl_t (v : Byte) (t : Loopy) :
    setNametableY (v.getLsbD 1) (setNametableX (v.getLsbD 0) t) =
      (t &&& 0x73FF#15) ||| ((v &&& 0x03#8).setWidth 15 <<< 10) := by
  rw [show (3#8) = BitVec.ofNat 8 (2 ^ 2 - 1) from rfl, setWidth_and_lowMask v (by decide)]
  apply loopy_ext <;> simp [setNametableX, setNametableY]

/-! ## The increments -/

theorem setCoarseX_eq_add (c : BitVec 5) (v : Loopy) : setCoarseX c v = (v &&& 0x7FE0#15) + c.setWidth 15 := by
  refine (BitVec.add_eq_or_of_and_eq_zero _ _ ?_).symm
  apply loopy_ext <;> simp

theorem setCoarseY_eq_add (c : BitVec 5) (v : Loopy) : setCoarseY c v = (v &&& 0x7C1F#15) + c.setWidth 15 <<< 5 := by
  refine (BitVec.add_eq_or_of_and_eq_zero _ _ ?_).symm
  apply loopy_ext <;> simp

theorem setFineY_eq_add (f : BitVec 3) (v : Loopy) : setFineY f v = (v &&& 0x0FFF#15) + f.setWidth 15 <<< 12 := by
  refine (BitVec.add_eq_or_of_and_eq_zero _ _ ?_).symm
  apply loopy_ext <;> simp

@[simp] theorem setCoarseX_coarseX (v : Loopy) : setCoarseX (coarseX v) v = v := by
  apply loopy_ext <;> simp [setCoarseX]

@[simp] theorem setCoarseY_coarseY (v : Loopy) : setCoarseY (coarseY v) v = v := by
  apply loopy_ext <;> simp [setCoarseY]

@[simp] theorem setFineY_fineY (v : Loopy) : setFineY (fineY v) v = v := by
  apply loopy_ext <;> simp [setFineY]

theorem and_coarseX_eq_iff (v : Loopy) : v &&& 0x1F#15 = 31#15 ↔ coarseX v = 31#5 := by
  refine ⟨fun h => by simpa using congrArg coarseX h, fun h => ?_⟩
  apply loopy_ext <;> simp [h]

theorem and_coarseY_eq_iff (v : Loopy) (c : BitVec 5) :
    v &&& 0x03E0#15 = c.setWidth 15 <<< 5 ↔ coarseY v = c := by
  refine ⟨fun h => by simpa using congrArg coarseY h, fun h => ?_⟩
  apply loopy_ext <;> simp [h]

theorem and_fineY_eq_iff (v : Loopy) : v &&& 0x7000#15 = 0x7000#15 ↔ fineY v = 7#3 := by
  refine ⟨fun h => by simpa using congrArg fineY h, fun h => ?_⟩
  apply loopy_ext <;> simp [h]

theorem setCoarseX_succ {v : Loopy} (h : coarseX v ≠ 31#5) : setCoarseX (coarseX v + 1#5) v = v + 1#15 := by
  have hsucc : (coarseX v + 1#5).setWidth 15 = (coarseX v).setWidth 15 + 1#15 := by bv_omega
  rw [setCoarseX_eq_add, hsucc, ← BitVec.add_assoc, ← setCoarseX_eq_add, setCoarseX_coarseX]

theorem setCoarseY_succ {v : Loopy} (h : coarseY v ≠ 31#5) : setCoarseY (coarseY v + 1#5) v = v + 0x20#15 := by
  have hsucc : (coarseY v + 1#5).setWidth 15 = (coarseY v).setWidth 15 + 1#15 := by bv_omega
  rw [setCoarseY_eq_add, hsucc, BitVec.shiftLeft_add_distrib, ← BitVec.add_assoc, ← setCoarseY_eq_add,
    setCoarseY_coarseY]
  rfl

theorem setFineY_succ {v : Loopy} (h : fineY v ≠ 7#3) : setFineY (fineY v + 1#3) v = v + 0x1000#15 := by
  have hsucc : (fineY v + 1#3).setWidth 15 = (fineY v).setWidth 15 + 1#15 := by bv_omega
  rw [setFineY_eq_add, hsucc, BitVec.shiftLeft_add_distrib, ← BitVec.add_assoc, ← setFineY_eq_add, setFineY_fineY]
  rfl

theorem incrementX_eq (v : Loopy) :
    incrementX v = if v &&& 0x1F#15 = 31#15 then (v &&& 0x7FE0#15) ^^^ 0x0400#15 else v + 1#15 := by
  simp only [incrementX, and_coarseX_eq_iff]
  split
  · apply loopy_ext <;> simp [setNametableX, setCoarseX]
  · next h => exact setCoarseX_succ h

theorem incrementY_eq (v : Loopy) :
    incrementY v =
      if v &&& 0x7000#15 ≠ 0x7000#15 then v + 0x1000#15
      else if v &&& 0x03E0#15 = 0x03A0#15 then (v &&& 0x0C1F#15) ^^^ 0x0800#15
      else if v &&& 0x03E0#15 = 0x03E0#15 then v &&& 0x0C1F#15
      else (v &&& 0x0FFF#15) + 0x20#15 := by
  have hlow : setFineY 0#3 v = v &&& 0x0FFF#15 := by apply loopy_ext <;> simp [setFineY]
  have hcy : coarseY (v &&& 0x0FFF#15) = coarseY v := by simp
  have h29 := and_coarseY_eq_iff v 29#5
  have h31 := and_coarseY_eq_iff v 31#5
  simp only [BitVec.reduceSetWidth, BitVec.reduceHShiftLeft] at h29 h31
  simp only [incrementY, ne_eq, and_fineY_eq_iff, h29, h31, hlow, hcy]
  by_cases hf : fineY v = 7#3
  · rw [if_neg (not_not_intro hf), if_neg (not_not_intro hf)]
    split
    · apply loopy_ext <;> simp [setNametableY, setCoarseY]
    · split
      · apply loopy_ext <;> simp [setCoarseY]
      · next h => exact hcy ▸ setCoarseY_succ (hcy.symm ▸ h)
  · rw [if_pos hf, if_pos hf]
    exact setFineY_succ hf

end Sys2Proof.Proofs
end

section
/-! The PPU's eight ports (R385 to R394). -/

namespace Sys2Proof.Proofs

open Sys2Proof.Machine Sys2Proof.Laws

/-- The three stored flags over the low bits of the data buffer (R387). -/
theorem statusValue_eq (p : Ppu) :
    p.statusValue =
      (if p.verticalBlank then 0x80#8 else 0#8) ||| (if p.spriteZeroHit then 0x40#8 else 0#8) |||
          (if p.spriteOverflow then 0x20#8 else 0#8) |||
        (p.dataBuffer &&& 0x1F#8) := by
  rw [Ppu.statusValue, Ppu.status]
  congr 1
  cases p.verticalBlank <;> cases p.spriteZeroHit <;> cases p.spriteOverflow <;> rfl

/-- Below the palette a data read is delayed by one read (R391). -/
theorem readData_value (cart : Option Cartridge) (ro : Bool) (p : Ppu) :
    (p.readData cart ro).1 =
      if 0x3F00 ≤ p.v.toNat % 0x4000 then ppuRead cart p (p.v.setWidth 14) else p.dataBuffer := by
  simp [Ppu.readData, busAddress]

/-- Settles O39: ports 2 and 7 by their own lemmas, the others as they are defined. -/
theorem ppuPortReads : Obligations.PpuPortReads := by
  intro cart p n
  unfold Ppu.readPort
  generalize n.toNat = port
  match port with
  | 2 => exact statusValue_eq p
  | 4 => rfl
  | 7 => exact readData_value cart false p
  | 0 | 1 | 3 | 5 | 6 | _ + 8 => rfl

/-- Settles O40: only the control port needs more than its definition, for the bits of `t`. -/
theorem ppuPortWrites : Obligations.PpuPortWrites := by
  intro cart p v
  have hcontrol : p.writePort cart 0#3 v = (p.writeControl v, cart) := rfl
  refine ⟨?_, rfl, rfl, rfl, rfl⟩
  rw [hcontrol, Ppu.writeControl, writeControl_t]

/-- A scroll write with the toggle clear, then one (R389). -/
theorem writeScroll_writeScroll {p : Ppu} (h : p.w = false) (d1 d2 : Byte) :
    (p.writeScroll d1).writeScroll d2 =
      { p with
        fineX := d1.extractLsb' 0 3
        t :=
          setCoarseY (d2.extractLsb' 3 5) (setFineY (d2.extractLsb' 0 3) (setCoarseX (d1.extractLsb' 3 5) p.t)) } := by
  simp [Ppu.writeScroll, h]

/-- An address write with the toggle clear, then one (R390). -/
theorem writeAddress_writeAddress {p : Ppu} (h : p.w = false) (d1 d2 : Byte) :
    (p.writeAddress d1).writeAddress d2 =
      { p with t := setAddressLow d2 (setAddressHigh d1 p.t), v := setAddressLow d2 (setAddressHigh d1 p.t) } := by
  simp [Ppu.writeAddress, h]

/-- Settles O41: each pair of writes as one update, and its `t` by fields. -/
theorem scrollAndAddressWrites : Obligations.ScrollAndAddressWrites := by
  intro cart p d1 d2 h
  have hscroll (q : Ppu) (d : Byte) : (q.writePort cart 5#3 d).1 = q.writeScroll d := rfl
  have haddress (q : Ppu) (d : Byte) : (q.writePort cart 6#3 d).1 = q.writeAddress d := rfl
  have hfine : (d2 &&& 0x07#8).setWidth 15 = (d2.extractLsb' 0 3).setWidth 15 :=
    setWidth_and_lowMask d2 (k := 3) (by decide)
  have hcoarse (d : Byte) : (d >>> 3).setWidth 15 = (d.extractLsb' 3 5).setWidth 15 := by
    rw [← BitVec.setWidth_ushiftRight_eq_extractLsb]
    bv_omega
  refine ⟨?_, ?_, ?_, ?_, ?_⟩
  · simp [hscroll, Ppu.writeScroll, h]
  · rw [hscroll, hscroll, writeScroll_writeScroll h, setScroll_eq, hfine, hcoarse, hcoarse]
    rfl
  · simp [haddress, Ppu.writeAddress, h]
  · simp [haddress, Ppu.writeAddress, h]
  · rw [haddress, haddress, writeAddress_writeAddress h, setAddress_eq]

/-- A PPU-bus write moves only the memories of the PPU. -/
theorem ppuWrite_dataBuffer (cart : Option Cartridge) (p : Ppu) (a : PpuAddr) (data : Byte) :
    (ppuWrite cart p a data).1.dataBuffer = p.dataBuffer := by
  unfold ppuWrite
  split
  · rfl
  · split
    · unfold nametableWrite
      split
      · rfl
      · split <;> rfl
    · rfl

/-- Settles O42: both accesses as they are defined. -/
theorem dataPortAccesses : Obligations.DataPortAccesses :=
  fun cart p data => ⟨rfl, rfl, ppuWrite_dataBuffer cart p _ data⟩

end Sys2Proof.Proofs
end

section
/-! The PPU bus (R395 to R399): the regions, the mirroring and the aliases by bits, and a read after a write. -/

namespace Sys2Proof.Proofs

open Sys2Proof.Machine Sys2Proof.Laws

/-! ## Addresses by bits -/

theorem bit_ppuAddr (a : PpuAddr) (i : Nat) : a.getLsbD i = decide (a.toNat / 2 ^ i % 2 = 1) := by
  rw [← BitVec.testBit_toNat, Nat.testBit_eq_decide_div_mod_eq]

theorem offset_ppuAddr (a : PpuAddr) : (a &&& 0x03FF#14).toNat = a.toNat % 0x400 := by
  rw [BitVec.toNat_and]
  exact Nat.and_two_pow_sub_one_eq_mod _ 10

/-- Settles O44: each mode's cell is the number that the address bits give. -/
theorem mirroringAndAliases : Obligations.MirroringAndAliases := by
  intro a
  dsimp only
  rw [offset_ppuAddr, bit_ppuAddr, bit_ppuAddr]
  simp only [decide_eq_true_eq, decide_eq_false_iff_not, nametableCell]
  refine ⟨?_, ?_, ?_, ?_, fun h => ?_, fun h => ?_, rfl, fun _ => rfl⟩
  · congr 1; split <;> omega
  · congr 1; split <;> omega
  · congr 1; omega
  · congr 1; omega
  · rw [if_pos (by omega)]; congr 1; split <;> omega
  · rw [if_neg (by omega)]; congr 1; split <;> omega

/-! ## The regions -/

section Regions
variable (cart : Option Cartridge) (p : Ppu) (data : Byte) {a : PpuAddr}

theorem ppuRead_pattern (h : a.toNat < 0x2000) : ppuRead cart p a = patternRead cart a := if_pos (by omega)

theorem ppuRead_nametable (h0 : 0x2000 ≤ a.toNat) (h1 : a.toNat < 0x3F00) :
    ppuRead cart p a = nametableRead cart p.vram a := by
  rw [ppuRead, if_neg (by omega), if_pos (by omega)]

theorem ppuRead_palette (h : 0x3F00 ≤ a.toNat) : ppuRead cart p a = paletteRead p.palette a := by
  rw [ppuRead, if_neg (by omega), if_neg (by omega)]

theorem ppuWrite_pattern (h : a.toNat < 0x2000) : ppuWrite cart p a data = (p, patternWrite cart a data) :=
  if_pos (by omega)

theorem ppuWrite_nametable (h0 : 0x2000 ≤ a.toNat) (h1 : a.toNat < 0x3F00) :
    ppuWrite cart p a data = nametableWrite cart p a data := by
  rw [ppuWrite, if_neg (by omega), if_pos (by omega)]

theorem ppuWrite_palette (h : 0x3F00 ≤ a.toNat) :
    ppuWrite cart p a data = ({ p with palette := Memory.write p.palette (palIndex a) data }, cart) := by
  rw [ppuWrite, if_neg (by omega), if_neg (by omega)]

/-- Every address lies in one of the three regions (R395). -/
theorem ppuAddr_regions (a : PpuAddr) :
    a.toNat < 0x2000 ∨ (0x2000 ≤ a.toNat ∧ a.toNat < 0x3F00) ∨ 0x3F00 ≤ a.toNat := by omega

end Regions

/-! ## Pattern tables -/

theorem patternWrite_rom {cart : Option Cartridge} (h : ∀ c, cart = some c → c.chrBanks ≠ 0) (a : PpuAddr)
    (data : Byte) : patternWrite cart a data = cart := by
  cases cart with
  | none => rfl
  | some c => simp [patternWrite, Cartridge.ppuMapWrite, h c rfl]

theorem patternWrite_ram {c : Cartridge} (h : c.chrBanks = 0) (a : PpuAddr) (data : Byte) :
    patternWrite (some c) a data = some { c with chr := Memory.write c.chr a.toNat data } := by
  simp [patternWrite, Cartridge.ppuMapWrite, h]

/-- A pattern-table write changes at most the CHR byte at the address. -/
theorem patternWrite_cases (cart : Option Cartridge) (a : PpuAddr) (data : Byte) :
    patternWrite cart a data = cart ∨
      ∃ c, cart = some c ∧ patternWrite cart a data = some { c with chr := Memory.write c.chr a.toNat data } := by
  by_cases h : ∀ c, cart = some c → c.chrBanks ≠ 0
  · exact .inl (patternWrite_rom h a data)
  · push Not at h
    obtain ⟨c, rfl, hc⟩ := h
    exact .inr ⟨c, rfl, patternWrite_ram hc a data⟩

theorem patternRead_patternWrite_other (cart : Option Cartridge) {a b : PpuAddr} (data : Byte) (h : a ≠ b) :
    patternRead (patternWrite cart a data) b = patternRead cart b := by
  rcases patternWrite_cases cart a data with hw | ⟨c, rfl, hw⟩
  · rw [hw]
  · rw [hw]
    exact memory_read_write_other c.chr data fun hab => h (BitVec.eq_of_toNat_eq hab.symm)

theorem nametableRead_patternWrite (cart : Option Cartridge) (vram : Memory) (a b : PpuAddr) (data : Byte) :
    nametableRead (patternWrite cart a data) vram b = nametableRead cart vram b := by
  rcases patternWrite_cases cart a data with hw | ⟨c, rfl, hw⟩
  · rw [hw]
  · rw [hw]; rfl

/-! ## Nametables -/

section Nametable
variable {cart : Option Cartridge} {p : Ppu} {a b : PpuAddr} {i : Nat} (data : Byte)

theorem nametableRead_vram (vram : Memory) (h : nametableCell (mirroringOf cart) a = .vram i) :
    nametableRead cart vram a = vram.read i := by
  rw [nametableRead, h]

theorem nametableRead_ext {c : Cartridge} (vram : Memory) (h : nametableCell c.mirroring a = .ext i) :
    nametableRead (some c) vram a = c.ntExt.read i := by
  rw [nametableRead, mirroringOf, h]

theorem nametableWrite_vram (h : nametableCell (mirroringOf cart) a = .vram i) :
    nametableWrite cart p a data = ({ p with vram := Memory.write p.vram i data }, cart) := by
  rw [nametableWrite, h]

theorem nametableWrite_ext {c : Cartridge} (h : nametableCell c.mirroring a = .ext i) :
    nametableWrite (some c) p a data = (p, some { c with ntExt := Memory.write c.ntExt i data }) := by
  rw [nametableWrite, mirroringOf, h]

/-- With no cartridge the mirroring is horizontal, which has no cell outside `vram` (R397). -/
theorem nametableCell_none (a : PpuAddr) : ∃ i, nametableCell (mirroringOf none) a = .vram i := ⟨_, rfl⟩

/-- A nametable address has a cell of `vram`, or one of the cartridge's extra memory. -/
theorem nametableCell_cases (cart : Option Cartridge) (a : PpuAddr) :
    (∃ i, nametableCell (mirroringOf cart) a = .vram i) ∨
      ∃ c i, cart = some c ∧ nametableCell c.mirroring a = .ext i := by
  cases cart with
  | none => exact .inl (nametableCell_none a)
  | some c =>
    cases h : nametableCell c.mirroring a with
    | vram i => exact .inl ⟨i, h⟩
    | ext i => exact .inr ⟨c, i, rfl, h⟩

theorem nametableRead_nametableWrite_same (hp : p.Inv) (hc : ∀ c, cart = some c → c.Inv) :
    nametableRead (nametableWrite cart p a data).2 (nametableWrite cart p a data).1.vram a = data := by
  rcases nametableCell_cases cart a with ⟨i, h⟩ | ⟨c, i, rfl, h⟩
  · rw [nametableWrite_vram data h, nametableRead_vram _ h]
    exact memory_read_write_same hp.vram.wf i data
  · rw [nametableWrite_ext data h]
    rw [nametableRead_ext (c := { c with ntExt := Memory.write c.ntExt i data }) _ h]
    exact memory_read_write_same (hc c rfl).ntExt.wf i data

theorem nametableRead_nametableWrite_other
    (hab : nametableCell (mirroringOf cart) a ≠ nametableCell (mirroringOf cart) b) :
    nametableRead (nametableWrite cart p a data).2 (nametableWrite cart p a data).1.vram b =
      nametableRead cart p.vram b := by
  rcases nametableCell_cases cart a with ⟨i, ha⟩ | ⟨c, i, rfl, ha⟩
  · rw [nametableWrite_vram data ha]
    rcases nametableCell_cases cart b with ⟨j, hb⟩ | ⟨c, j, rfl, hb⟩
    · rw [nametableRead_vram _ hb, nametableRead_vram _ hb]
      exact memory_read_write_other _ data fun hij => hab (by rw [ha, hb, hij])
    · rw [nametableRead_ext _ hb, nametableRead_ext _ hb]
  · rw [nametableWrite_ext data ha]
    rcases nametableCell_cases (some c) b with ⟨j, hb⟩ | ⟨_, j, ⟨⟩, hb⟩
    · rw [nametableRead_vram _ hb]
      exact nametableRead_vram _ hb
    · rw [nametableRead_ext _ hb, nametableRead_ext (c := { c with ntExt := Memory.write c.ntExt i data }) _ hb]
      refine memory_read_write_other c.ntExt data fun hij => hab ?_
      rw [mirroringOf, ha, hb, hij]

/-- A nametable write leaves the CHR memory and the palette alone. -/
theorem nametableWrite_others (cart : Option Cartridge) (p : Ppu) (a : PpuAddr) :
    (nametableWrite cart p a data).1.palette = p.palette ∧
      ∀ b, patternRead (nametableWrite cart p a data).2 b = patternRead cart b := by
  rcases nametableCell_cases cart a with ⟨i, h⟩ | ⟨c, i, rfl, h⟩
  · rw [nametableWrite_vram data h]; exact ⟨rfl, fun _ => rfl⟩
  · rw [nametableWrite_ext data h]; exact ⟨rfl, fun _ => rfl⟩

end Nametable

/-! ## The whole bus -/

/-- A write of the pattern tables leaves every other address alone. -/
theorem ppuRead_ppuWrite_pattern (cart : Option Cartridge) (p : Ppu) {a b : PpuAddr} (data : Byte)
    (ha : a.toNat < 0x2000) (hab : a ≠ b) :
    ppuRead (ppuWrite cart p a data).2 (ppuWrite cart p a data).1 b = ppuRead cart p b := by
  rw [ppuWrite_pattern cart p data ha]
  simp only [ppuRead, patternRead_patternWrite_other cart data hab, nametableRead_patternWrite]

/-- A nametable write leaves the addresses of other cells alone. -/
theorem ppuRead_ppuWrite_nametable (cart : Option Cartridge) (p : Ppu) {a b : PpuAddr} (data : Byte)
    (ha : 0x2000 ≤ a.toNat ∧ a.toNat < 0x3F00)
    (hab : 0x2000 ≤ b.toNat ∧ b.toNat < 0x3F00 →
      nametableCell (mirroringOf cart) a ≠ nametableCell (mirroringOf cart) b) :
    ppuRead (ppuWrite cart p a data).2 (ppuWrite cart p a data).1 b = ppuRead cart p b := by
  obtain ⟨hpalette, hpattern⟩ := nametableWrite_others data cart p a
  rw [ppuWrite_nametable cart p data ha.1 ha.2]
  rcases ppuAddr_regions b with hb | hb | hb
  · rw [ppuRead_pattern _ _ hb, ppuRead_pattern _ _ hb, hpattern]
  · rw [ppuRead_nametable _ _ hb.1 hb.2, ppuRead_nametable _ _ hb.1 hb.2]
    exact nametableRead_nametableWrite_other data (hab hb)
  · rw [ppuRead_palette _ _ hb, ppuRead_palette _ _ hb, hpalette]

/-- A palette write leaves the addresses of other cells alone. -/
theorem ppuRead_ppuWrite_palette (cart : Option Cartridge) (p : Ppu) {a b : PpuAddr} (data : Byte)
    (ha : 0x3F00 ≤ a.toNat) (hab : 0x3F00 ≤ b.toNat → palIndex a ≠ palIndex b) :
    ppuRead (ppuWrite cart p a data).2 (ppuWrite cart p a data).1 b = ppuRead cart p b := by
  rw [ppuWrite_palette cart p data ha]
  rcases ppuAddr_regions b with hb | hb | hb
  · rw [ppuRead_pattern _ _ hb, ppuRead_pattern _ _ hb]
  · rw [ppuRead_nametable _ _ hb.1 hb.2, ppuRead_nametable _ _ hb.1 hb.2]
  · rw [ppuRead_palette _ _ hb, ppuRead_palette _ _ hb, paletteRead, paletteRead,
      memory_read_write_other _ data (hab hb).symm]

/-- Settles O43: what each region reads, what a write to it is read back as, and what it leaves alone. -/
theorem ppuBusStoreThenLoad : Obligations.PpuBusStoreThenLoad := by
  intro cart p a b data hp hc
  refine ⟨?_, ?_, ?_, ?_, fun hb => ppuRead_palette cart p hb, fun ha => ?_, fun ha => ?_, ?_, fun ha hrom => ?_, ?_⟩
  · rintro hb rfl
    exact ppuRead_pattern none p hb
  · rintro hb c rfl
    exact ppuRead_pattern (some c) p hb
  · intro hb i hi
    rw [ppuRead_nametable cart p hb.1 hb.2, nametableRead_vram _ hi]
  · rintro hb c i rfl hi
    rw [ppuRead_nametable _ p hb.1 hb.2, nametableRead_ext _ hi]
  · rw [ppuWrite_palette cart p data ha, ppuRead_palette _ _ ha, paletteRead,
      memory_read_write_same hp.palette.wf]
  · rw [ppuWrite_nametable cart p data ha.1 ha.2, ppuRead_nametable _ _ ha.1 ha.2]
    exact nametableRead_nametableWrite_same data hp hc
  · rintro ha ⟨c, rfl, hram⟩
    rw [ppuWrite_pattern _ p data ha, ppuRead_pattern _ _ ha, patternWrite_ram hram]
    exact memory_read_write_same (hc c rfl).chr.wf a.toNat data
  · rw [ppuWrite_pattern cart p data ha, patternWrite_rom hrom]
    exact ⟨rfl, rfl⟩
  · intro hb
    rcases ppuAddr_regions a with ha | ha | ha
    · refine ppuRead_ppuWrite_pattern cart p data ha ?_
      rintro rfl
      rcases hb with ⟨-, hne⟩ | ⟨hb, -⟩ | ⟨hb, -⟩
      · exact hne rfl
      · omega
      · omega
    · refine ppuRead_ppuWrite_nametable cart p data ha fun hb' => ?_
      rcases hb with ⟨hb, -⟩ | ⟨-, hna | hcell⟩ | ⟨hb, -⟩
      · omega
      · exact absurd ha hna
      · exact hcell
      · omega
    · refine ppuRead_ppuWrite_palette cart p data ha fun hb' => ?_
      rcases hb with ⟨hb, -⟩ | ⟨hb, -⟩ | ⟨-, hna | hcell⟩
      · omega
      · omega
      · exact absurd ha hna
      · exact hcell

end Sys2Proof.Proofs
end

section
/-! One dot of the PPU, said once (R400): what each dot does before `advance()`, and what the parts of the schedule
leave alone. Then the position, vertical blank and the flags over a dot (R401 to R404). -/

namespace Sys2Proof.Proofs

open Sys2Proof.Machine Sys2Proof.Laws

/-! ## The parts of the schedule -/

/-- The two pipelines of a dot with rendering enabled on scanlines −1 to 239; nothing on any other dot. -/
def pipelines (cart : Option Cartridge) (p : Ppu) : Ppu :=
  p.doWhen (decide (-1 ≤ p.scanline) && decide (p.scanline ≤ 239) && p.rendering) fun q =>
    (q.backgroundPipeline cart p.scanline p.cycle).spriteShift p.cycle

/-- A PPU without the registers that the pipelines move: `v`, the latches and shifters, and the sprite slots. -/
def exceptPipelines (p : Ppu) : Ppu :=
  { p with
    v := 0#15, nextTileId := 0#8, nextTileAttrib := 0#2, nextTileLsb := 0#8, nextTileMsb := 0#8
    bgPatLo := 0#16, bgPatHi := 0#16, bgAttLo := 0#16, bgAttHi := 0#16, slots := [] }

theorem exceptPipelines_backgroundGroup (cart : Option Cartridge) (k : Nat) (p : Ppu) :
    exceptPipelines (p.backgroundGroup cart k) = exceptPipelines p := by
  unfold Ppu.backgroundGroup
  split <;> rfl

theorem exceptPipelines_backgroundPipeline (cart : Option Cartridge) (s : Int) (c : Nat) (p : Ppu) :
    exceptPipelines (p.backgroundPipeline cart s c) = exceptPipelines p := by
  unfold Ppu.backgroundPipeline
  dsimp only
  refine (doWhen_keeps exceptPipelines (by exact fun _ => rfl) _ _).trans ?_
  refine (doWhen_keeps exceptPipelines (by exact fun _ => rfl) _ _).trans ?_
  refine (doWhen_keeps exceptPipelines (by exact fun _ => rfl) _ _).trans ?_
  refine (doWhen_keeps exceptPipelines (by exact fun _ => rfl) _ _).trans ?_
  refine (doWhen_keeps exceptPipelines (exceptPipelines_backgroundGroup cart _) _ _).trans ?_
  refine (doWhen_keeps exceptPipelines (by exact fun _ => rfl) _ _).trans ?_
  exact doWhen_keeps exceptPipelines (by exact fun _ => rfl) _ _

theorem exceptPipelines_spriteShift (c : Nat) (p : Ppu) : exceptPipelines (p.spriteShift c) = exceptPipelines p := by
  unfold Ppu.spriteShift
  split <;> rfl

theorem exceptPipelines_pipelines (cart : Option Cartridge) (p : Ppu) :
    exceptPipelines (pipelines cart p) = exceptPipelines p :=
  doWhen_keeps exceptPipelines
    (fun q => (exceptPipelines_spriteShift _ _).trans (exceptPipelines_backgroundPipeline cart _ _ q)) _ p

/-- What does not look at those registers does not see the pipelines. -/
theorem pipelines_keeps {β : Type} (g : Ppu → β) (hg : ∀ q, g (exceptPipelines q) = g q) (cart : Option Cartridge)
    (p : Ppu) : g (pipelines cart p) = g p := by
  rw [← hg, exceptPipelines_pipelines, hg]

section Pipelines
variable (cart : Option Cartridge) (p : Ppu)

@[simp] theorem pipelines_spriteOverflow : (pipelines cart p).spriteOverflow = p.spriteOverflow :=
  pipelines_keeps Ppu.spriteOverflow (fun _ => rfl) cart p
@[simp] theorem pipelines_spriteZeroHit : (pipelines cart p).spriteZeroHit = p.spriteZeroHit :=
  pipelines_keeps Ppu.spriteZeroHit (fun _ => rfl) cart p
@[simp] theorem pipelines_verticalBlank : (pipelines cart p).verticalBlank = p.verticalBlank :=
  pipelines_keeps Ppu.verticalBlank (fun _ => rfl) cart p
@[simp] theorem pipelines_frameComplete : (pipelines cart p).frameComplete = p.frameComplete :=
  pipelines_keeps Ppu.frameComplete (fun _ => rfl) cart p
@[simp] theorem pipelines_secOam : (pipelines cart p).secOam = p.secOam :=
  pipelines_keeps Ppu.secOam (fun _ => rfl) cart p
@[simp] theorem pipelines_spriteCount : (pipelines cart p).spriteCount = p.spriteCount :=
  pipelines_keeps Ppu.spriteCount (fun _ => rfl) cart p
@[simp] theorem pipelines_spriteZeroPossible : (pipelines cart p).spriteZeroPossible = p.spriteZeroPossible :=
  pipelines_keeps Ppu.spriteZeroPossible (fun _ => rfl) cart p
@[simp] theorem pipelines_frame : (pipelines cart p).frame = p.frame :=
  pipelines_keeps Ppu.frame (fun _ => rfl) cart p
@[simp] theorem pipelines_scanline : (pipelines cart p).scanline = p.scanline :=
  pipelines_keeps Ppu.scanline (fun _ => rfl) cart p
@[simp] theorem pipelines_cycle : (pipelines cart p).cycle = p.cycle :=
  pipelines_keeps Ppu.cycle (fun _ => rfl) cart p

/-- The pipelines write no memory of the PPU bus. -/
@[simp] theorem ppuRead_pipelines (a : PpuAddr) : ppuRead cart (pipelines cart p) a = ppuRead cart p a :=
  pipelines_keeps (ppuRead cart · a) (fun _ => rfl) cart p

theorem pipelines_disabled (h : p.rendering = false) : pipelines cart p = p := by
  simp [pipelines, Ppu.doWhen, h]

end Pipelines

/-- What `advance()` moves. -/
theorem advance_eq (p : Ppu) :
    p.advance =
      { p with
        scanline := p.advance.scanline, cycle := p.advance.cycle, frameComplete := p.advance.frameComplete } := by
  unfold Ppu.advance
  split
  · split <;> rfl
  · rfl

/-- What the evaluation moves. -/
theorem spriteEvaluation_eq (s : Nat) (p : Ppu) :
    p.spriteEvaluation s =
      { p with
        secOam := (p.spriteEvaluation s).secOam
        spriteCount := (p.spriteEvaluation s).spriteCount
        spriteZeroPossible := (p.spriteEvaluation s).spriteZeroPossible
        spriteOverflow := (p.spriteEvaluation s).spriteOverflow
        slots := (p.spriteEvaluation s).slots } := by
  unfold Ppu.spriteEvaluation
  dsimp only
  split <;> rfl

/-- What the sprite fetch moves. -/
theorem spriteFetch_eq (cart : Option Cartridge) (s : Nat) (p : Ppu) :
    p.spriteFetch cart s =
      { p with slots := (p.spriteFetch cart s).slots, freeCount := (p.spriteFetch cart s).freeCount } := by
  unfold Ppu.spriteFetch
  split <;> rfl

/-! ## The work of a dot -/

/-- What a dot does before `advance()` (R400). -/
inductive DotWork (cart : Option Cartridge) (p : Ppu) : Ppu → Prop
  | preRender (hs : p.scanline = -1) (hc : p.cycle = 1) : DotWork cart p (pipelines cart p.preRenderClear)
  | evaluation (h0 : 0 ≤ p.scanline) (h1 : p.scanline ≤ 239) (hc : p.cycle = 257) :
      DotWork cart p ((pipelines cart p).spriteEvaluation p.scanline.toNat)
  | fetch (h0 : 0 ≤ p.scanline) (h1 : p.scanline ≤ 239) (hc : p.cycle = 320) :
      DotWork cart p ((pipelines cart p).spriteFetch cart p.scanline.toNat)
  | vblank (hs : p.scanline = 241) (hc : p.cycle = 1) : DotWork cart p p.enterVblank
  | picture (h0 : 0 ≤ p.scanline) (h1 : p.scanline ≤ 239) (hc0 : 1 ≤ p.cycle) (hc1 : p.cycle ≤ 256) :
      DotWork cart p ((pipelines cart p).pixelOutput cart p.scanline.toNat p.cycle)
  | plain (hpre : ¬(p.scanline = -1 ∧ p.cycle = 1)) (hvblank : ¬(p.scanline = 241 ∧ p.cycle = 1))
      (hvisible :
        ¬(0 ≤ p.scanline ∧ p.scanline ≤ 239 ∧ (1 ≤ p.cycle ∧ p.cycle ≤ 256 ∨ p.cycle = 257 ∨ p.cycle = 320))) :
      DotWork cart p (pipelines cart p)

section Clock
variable (cart : Option Cartridge) {p : Ppu}

theorem clock_preRender (hs : p.scanline = -1) (hc : p.cycle = 1) :
    p.clock cart = (pipelines cart p.preRenderClear).advance := by
  have hs' : p.preRenderClear.scanline = -1 := hs
  have hc' : p.preRenderClear.cycle = 1 := hc
  simp [Ppu.clock, pipelines, Ppu.doWhen, hs, hc, hs', hc']

theorem clock_of_not_preRender (h : ¬(p.scanline = -1 ∧ p.cycle = 1)) :
    p.clock cart =
      (((((pipelines cart p).doWhen (decide (0 ≤ p.scanline) && decide (p.scanline ≤ 239) && p.cycle == 257)
                (Ppu.spriteEvaluation p.scanline.toNat)).doWhen
              (decide (0 ≤ p.scanline) && decide (p.scanline ≤ 239) && p.cycle == 320)
              (Ppu.spriteFetch cart p.scanline.toNat)).doWhen
            (p.scanline == 241 && p.cycle == 1) Ppu.enterVblank).doWhen
          (decide (0 ≤ p.scanline) && decide (p.scanline ≤ 239) && decide (1 ≤ p.cycle) && decide (p.cycle ≤ 256))
          (Ppu.pixelOutput cart p.scanline.toNat p.cycle)).advance := by
  have hpre : (p.scanline == -1 && p.cycle == 1) = false := by simpa using h
  unfold Ppu.clock
  dsimp only
  rw [hpre]
  rfl

/-- Every dot is one of the six kinds. -/
theorem clock_work (cart : Option Cartridge) (p : Ppu) : ∃ q, p.clock cart = q.advance ∧ DotWork cart p q := by
  by_cases hpre : p.scanline = -1 ∧ p.cycle = 1
  · exact ⟨_, clock_preRender cart hpre.1 hpre.2, .preRender hpre.1 hpre.2⟩
  by_cases hvblank : p.scanline = 241 ∧ p.cycle = 1
  · exact ⟨_, clock_enterVblank hvblank.1 hvblank.2 cart, .vblank hvblank.1 hvblank.2⟩
  rw [clock_of_not_preRender cart hpre]
  have hvblank' : (p.scanline == 241 && p.cycle == 1) = false := by simpa using hvblank
  by_cases hvisible : 0 ≤ p.scanline ∧ p.scanline ≤ 239
  · obtain ⟨h0, h1⟩ := hvisible
    by_cases h257 : p.cycle = 257
    · exact ⟨_, by simp [Ppu.doWhen, h0, h1, h257], .evaluation h0 h1 h257⟩
    by_cases h320 : p.cycle = 320
    · exact ⟨_, by simp [Ppu.doWhen, h0, h1, h320], .fetch h0 h1 h320⟩
    by_cases hpicture : 1 ≤ p.cycle ∧ p.cycle ≤ 256
    · exact ⟨_, by simp [Ppu.doWhen, hvblank', h0, h1, h257, h320, hpicture], .picture h0 h1 hpicture.1 hpicture.2⟩
    · refine ⟨pipelines cart p, ?_, .plain hpre hvblank (by omega)⟩
      have hpicture' : (decide (1 ≤ p.cycle) && decide (p.cycle ≤ 256)) = false := by simpa using hpicture
      simp [Ppu.doWhen, hvblank', h0, h1, h257, h320, hpicture']
  · refine ⟨pipelines cart p, ?_, .plain hpre hvblank (by omega)⟩
    have hinvisible : (decide (0 ≤ p.scanline) && decide (p.scanline ≤ 239)) = false := by simpa using hvisible
    simp only [hinvisible, hvblank', Bool.false_and, Ppu.doWhen, Bool.false_eq_true, if_false]

end Clock

/-! ## The position, vertical blank and the flags over a dot -/

theorem advance_frameComplete_iff {p : Ppu} (hle : p.scanline ≤ 260) (hc : p.cycle ≤ 340) :
    p.advance.frameComplete = true ↔ p.frameComplete = true ∨ (p.scanline = 260 ∧ p.cycle = 340) := by
  unfold Ppu.advance
  split
  · split
    · simp only [true_iff]
      omega
    · simp only [iff_self_or]
      omega
  · simp only [iff_self_or]
    omega

section Advance
variable (p : Ppu)

@[simp] theorem advance_verticalBlank : p.advance.verticalBlank = p.verticalBlank := by rw [advance_eq]
@[simp] theorem advance_spriteZeroHit : p.advance.spriteZeroHit = p.spriteZeroHit := by rw [advance_eq]
@[simp] theorem advance_spriteOverflow : p.advance.spriteOverflow = p.spriteOverflow := by rw [advance_eq]
@[simp] theorem advance_spriteCount : p.advance.spriteCount = p.spriteCount := by rw [advance_eq]
@[simp] theorem advance_secOam : p.advance.secOam = p.secOam := by rw [advance_eq]
@[simp] theorem advance_spriteZeroPossible : p.advance.spriteZeroPossible = p.spriteZeroPossible := by rw [advance_eq]
@[simp] theorem advance_slots : p.advance.slots = p.slots := by rw [advance_eq]
@[simp] theorem advance_frame : p.advance.frame = p.frame := by rw [advance_eq]

end Advance

theorem clock_frameComplete_iff {p : Ppu} (h : p.Inv) (cart : Option Cartridge) :
    (p.clock cart).frameComplete = true ↔ p.frameComplete = true ∨ (p.scanline = 260 ∧ p.cycle = 340) := by
  obtain ⟨q, hq, hwork⟩ := clock_work cart p
  have hkept : q.scanline = p.scanline ∧ q.cycle = p.cycle ∧ q.frameComplete = p.frameComplete := by
    cases hwork with
    | preRender => simp [Ppu.preRenderClear]
    | evaluation => rw [spriteEvaluation_eq]; simp
    | fetch => rw [spriteFetch_eq]; simp
    | vblank => exact ⟨rfl, rfl, rfl⟩
    | picture => simp [Ppu.pixelOutput]
    | plain => simp
  obtain ⟨hscanline, hcycle, hcomplete⟩ := hkept
  rw [hq, advance_frameComplete_iff (hscanline ▸ h.scanlineLe) (hcycle ▸ h.cycleLe), hscanline, hcycle, hcomplete]

theorem clock_verticalBlank (cart : Option Cartridge) (p : Ppu) :
    (p.clock cart).verticalBlank =
      if p.scanline = 241 ∧ p.cycle = 1 then true
      else if p.scanline = -1 ∧ p.cycle = 1 then false
      else p.verticalBlank := by
  obtain ⟨q, hq, hwork⟩ := clock_work cart p
  rw [hq, advance_verticalBlank]
  cases hwork with
  | preRender hs hc => rw [if_neg (by omega), if_pos ⟨hs, hc⟩, pipelines_verticalBlank]; rfl
  | evaluation => rw [if_neg (by omega), if_neg (by omega), spriteEvaluation_eq]; exact pipelines_verticalBlank cart p
  | fetch => rw [if_neg (by omega), if_neg (by omega), spriteFetch_eq]; exact pipelines_verticalBlank cart p
  | vblank hs hc => rw [if_pos ⟨hs, hc⟩]; rfl
  | picture => rw [if_neg (by omega), if_neg (by omega)]; exact pipelines_verticalBlank cart p
  | plain hpre hvblank => rw [if_neg hvblank, if_neg hpre, pipelines_verticalBlank]

theorem clock_preRender_flags {p : Ppu} (hs : p.scanline = -1) (hc : p.cycle = 1) (cart : Option Cartridge) :
    (p.clock cart).spriteZeroHit = false ∧ (p.clock cart).spriteOverflow = false ∧ (p.clock cart).spriteCount = 0 := by
  rw [clock_preRender cart hs hc]
  simp [Ppu.preRenderClear]

theorem spriteEvaluation_overflow_of (s : Nat) {p : Ppu} (h : p.spriteOverflow = true) :
    (p.spriteEvaluation s).spriteOverflow = true := by
  unfold Ppu.spriteEvaluation
  dsimp only
  split
  · exact h
  · simp [Ppu.clearSprites, h]

/-- Away from the pre-render clear the two sprite flags are set and never cleared (R402). -/
theorem clock_flags_of {p : Ppu} (h : ¬(p.scanline = -1 ∧ p.cycle = 1)) (cart : Option Cartridge) :
    (p.spriteZeroHit = true → (p.clock cart).spriteZeroHit = true) ∧
      (p.spriteOverflow = true → (p.clock cart).spriteOverflow = true) := by
  obtain ⟨q, hq, hwork⟩ := clock_work cart p
  rw [hq, advance_spriteZeroHit, advance_spriteOverflow]
  cases hwork with
  | preRender hs hc => exact absurd ⟨hs, hc⟩ h
  | evaluation =>
    refine ⟨fun hhit => ?_, fun hover => spriteEvaluation_overflow_of _ (by simpa using hover)⟩
    rw [spriteEvaluation_eq]
    simpa using hhit
  | fetch => rw [spriteFetch_eq]; simp
  | vblank => exact ⟨id, id⟩
  | picture => simp +contextual [Ppu.pixelOutput]
  | plain => simp

theorem clock_frame_of_blank {p : Ppu} (h : p.scanline < 0 ∨ 239 < p.scanline) (cart : Option Cartridge) :
    (p.clock cart).frame = p.frame := by
  obtain ⟨q, hq, hwork⟩ := clock_work cart p
  rw [hq, advance_frame]
  cases hwork with
  | preRender => rw [pipelines_frame]; rfl
  | evaluation | fetch | picture => omega
  | vblank => rfl
  | plain => exact pipelines_frame cart p

/-- Settles O46: the conjuncts one by one. -/
theorem dotPosition : Obligations.DotPosition := by
  intro cart p h
  have hindex : dotIndex (p.clock cart) = (dotIndex p + 1) % 89342 := by
    obtain ⟨hscanline, hcycle⟩ := clock_dot cart p
    rw [← dotIndex_advance h.scanlineGe h.scanlineLe h.cycleLe, dotIndex, dotIndex, hscanline, hcycle]
  have hnmi : (p.clock cart).nmiOut = true ↔ p.nmiOut = true ∨ RaisesNmi p := by
    rw [clock_nmiOut_iff h.nmiOut, h.nmiOut]
    simp
  exact ⟨hindex, clock_frameComplete_iff h cart, clock_verticalBlank cart p,
    fun hs hc => clock_preRender_flags hs hc cart, fun hpre => clock_flags_of hpre cart, hnmi,
    fun hblank => clock_frame_of_blank hblank cart⟩

end Sys2Proof.Proofs
end

section
/-! The picture (R440 to R443): composition, the sprite-zero test and the pixel that a dot draws; and a dot with
rendering disabled (R410, R436). -/

namespace Sys2Proof.Proofs

open Sys2Proof.Machine Sys2Proof.Laws

/-! ## The pixel of a dot -/

/-- A pixel written inside a well-formed frame is the only one that changes. -/
theorem frame_read_write {f : Frame} (hf : f.wf = true) (y x : Nat) (v : BitVec 6) (y' x' : Nat) :
    (f.write y x v).read y' x' = if y' = y ∧ x' = x then v else f.read y' x' := by
  split
  · next h => rw [h.1, h.2, frame_read_write_same hf]
  · next h => exact frame_read_write_other hf v (by omega)

/-- The pixel that the picture dot `(s, c)` shows, at column `c − 1`. -/
theorem frame_read_write_dot {f : Frame} (hf : f.wf = true) {s : Int} {c : Nat} (hs : 0 ≤ s) (hc : 1 ≤ c) (v : BitVec 6)
    (y x : Nat) :
    (f.write s.toNat (c - 1) v).read y x = if (y : Int) = s ∧ x + 1 = c then v else f.read y x := by
  have hdot : (y = s.toNat ∧ x = c - 1) ↔ ((y : Int) = s ∧ x + 1 = c) := by omega
  simp only [frame_read_write hf, hdot]

section Picture
variable (cart : Option Cartridge) {p : Ppu}

theorem clock_picture (h0 : 0 ≤ p.scanline) (h1 : p.scanline ≤ 239) (hc0 : 1 ≤ p.cycle) (hc1 : p.cycle ≤ 256) :
    p.clock cart = ((pipelines cart p).pixelOutput cart p.scanline.toNat p.cycle).advance := by
  obtain ⟨q, hq, hwork⟩ := clock_work cart p
  cases hwork with
  | picture => exact hq
  | preRender | evaluation | fetch | vblank | plain => omega

/-- The pixels and the sprite-zero test do not see the pixel written, the hit flag and the position. -/
theorem pixels_pixelOutput_advance (s c : Nat) (q : Ppu) :
    (q.pixelOutput cart s c).advance.backgroundPixel c = q.backgroundPixel c ∧
      (q.pixelOutput cart s c).advance.spritePixel c = q.spritePixel c ∧
        ∀ bp sp, (q.pixelOutput cart s c).advance.spriteZeroTest c bp sp = q.spriteZeroTest c bp sp := by
  rw [advance_eq]
  exact ⟨rfl, rfl, fun _ _ => rfl⟩

theorem pixelAddr_eq (palette : BitVec 3) (pixel : BitVec 2) :
    pixelAddr palette pixel = BitVec.ofNat 14 (0x3F00 + 4 * palette.toNat + pixel.toNat) := by
  rw [pixelAddr, Nat.mul_comm]

theorem compose_cases (bp bpal : BitVec 2) (sp : SpritePixel) :
    (bp = 0#2 → sp.pixel = 0#2 → compose bp bpal sp = (0#2, 0#3)) ∧
      (bp = 0#2 → sp.pixel ≠ 0#2 → compose bp bpal sp = (sp.pixel, sp.palette)) ∧
        (bp ≠ 0#2 → sp.pixel = 0#2 → compose bp bpal sp = (bp, bpal.setWidth 3)) ∧
          (bp ≠ 0#2 → sp.pixel ≠ 0#2 →
            compose bp bpal sp = if sp.inFront then (sp.pixel, sp.palette) else (bp, bpal.setWidth 3)) := by
  unfold compose
  refine ⟨fun hb hs => ?_, fun hb hs => ?_, fun hb hs => ?_, fun hb hs => ?_⟩ <;> simp only [hb, hs, if_true, if_false]

theorem spriteZeroTest_iff (c : Nat) (bp : BitVec 2) (sp : SpritePixel) (p : Ppu) :
    p.spriteZeroTest c bp sp = true ↔
      sp.isZero = true ∧ bp ≠ 0#2 ∧ sp.pixel ≠ 0#2 ∧ p.mask.getLsbD 3 = true ∧ p.mask.getLsbD 4 = true ∧ c ≤ 255 := by
  simp only [Ppu.spriteZeroTest, Ppu.renderBackground, Ppu.renderSprites, Bool.and_eq_true, bne_iff_ne,
    decide_eq_true_eq, and_assoc]

/-- Settles O48: the pixels after the dot are those that the pixel output composed. -/
theorem pixelComposition : Obligations.PixelComposition := by
  refine ⟨fun p c bp bpal sp => ?_, fun cart p h h0 h1 hc0 hc1 => ?_⟩
  · obtain ⟨hnone, hsprite, hbackground, hboth⟩ := compose_cases bp bpal sp
    exact ⟨hnone, hsprite, hbackground, hboth, spriteZeroTest_iff c bp sp p⟩
  · obtain ⟨hb, hsp, htest⟩ := pixels_pixelOutput_advance cart p.scanline.toNat p.cycle (pipelines cart p)
    dsimp only
    rw [clock_picture cart h0 h1 hc0 hc1, hb, hsp, htest, advance_spriteZeroHit, advance_frame, ← pixelAddr_eq]
    refine ⟨?_, fun y x => ?_⟩
    · simp [Ppu.pixelOutput]
    · simp only [Ppu.pixelOutput, pipelines_frame, ppuRead_pipelines]
      exact frame_read_write_dot h.frame h0 hc0 _ y x

end Picture

/-! ## Rendering disabled -/

/-- The backdrop is palette entry 0 (R440). -/
theorem backdrop_eq (cart : Option Cartridge) (p : Ppu) :
    (ppuRead cart p (pixelAddr 0#3 0#2)).setWidth 6 = (Memory.read p.palette 0).setWidth 6 := by
  rw [ppuRead_palette cart p (by decide), paletteRead, BitVec.setWidth_and]
  exact BitVec.and_allOnes

section Disabled
variable {p : Ppu} (hb : p.renderBackground = false) (hs : p.renderSprites = false)
include hb hs

theorem rendering_eq_false : p.rendering = false := by simp [Ppu.rendering, hb, hs]

theorem spriteEvaluation_disabled (s : Nat) : p.spriteEvaluation s = p.clearSprites := by
  have : p.clearSprites.rendering = false := rendering_eq_false (p := p) hb hs
  simp [Ppu.spriteEvaluation, this]

theorem spriteFetch_disabled (cart : Option Cartridge) (s : Nat) : p.spriteFetch cart s = p := by
  simp [Ppu.spriteFetch, rendering_eq_false hb hs]

theorem pixelOutput_disabled (cart : Option Cartridge) (s c : Nat) :
    p.pixelOutput cart s c =
      { p with frame := Frame.write p.frame s (c - 1) ((Memory.read p.palette 0).setWidth 6) } := by
  have hbackground : p.backgroundPixel c = (0#2, 0#2) := by simp [Ppu.backgroundPixel, hb]
  have hsprite : p.spritePixel c = SpritePixel.none := by simp [Ppu.spritePixel, hs]
  have hcompose : compose 0#2 0#2 SpritePixel.none = (0#2, 0#3) := rfl
  rw [Ppu.pixelOutput, hbackground, hsprite, hcompose, backdrop_eq]
  simp [Ppu.spriteZeroTest, SpritePixel.none]

end Disabled

/-- Settles O47: at each kind of dot, the one part of the schedule that is left. -/
theorem renderingDisabled : Obligations.RenderingDisabled := by
  intro cart p h hb hs
  have hoff : p.rendering = false := rendering_eq_false hb hs
  obtain ⟨q, hq, hwork⟩ := clock_work cart p
  dsimp only
  rw [hq, advance_eq]
  cases hwork with
  | preRender hline hdot =>
    have hpre : p.scanline = -1 ∧ p.cycle = 1 := ⟨hline, hdot⟩
    have hev : ¬(0 ≤ p.scanline ∧ p.scanline ≤ 239 ∧ p.cycle = 257) := by omega
    rw [pipelines_disabled cart p.preRenderClear hoff]
    simp only [if_pos hpre, if_neg hev, if_pos (Or.inl hpre)]
    refine ⟨rfl, fun y x => ?_⟩
    rw [if_neg (by omega)]
    rfl
  | evaluation h0 h1 hdot =>
    have hpre : ¬(p.scanline = -1 ∧ p.cycle = 1) := by omega
    have hev : 0 ≤ p.scanline ∧ p.scanline ≤ 239 ∧ p.cycle = 257 := ⟨h0, h1, hdot⟩
    rw [pipelines_disabled cart p hoff, spriteEvaluation_disabled hb hs]
    simp only [if_neg hpre, if_pos hev, if_pos (Or.inr hev)]
    refine ⟨rfl, fun y x => ?_⟩
    rw [if_neg (by omega)]
    rfl
  | picture h0 h1 hdot0 hdot1 =>
    have hpre : ¬(p.scanline = -1 ∧ p.cycle = 1) := by omega
    have hev : ¬(0 ≤ p.scanline ∧ p.scanline ≤ 239 ∧ p.cycle = 257) := by omega
    have hdrawn : 0 ≤ p.scanline ∧ p.scanline ≤ 239 ∧ 1 ≤ p.cycle ∧ p.cycle ≤ 256 := ⟨h0, h1, hdot0, hdot1⟩
    rw [pipelines_disabled cart p hoff, pixelOutput_disabled hb hs]
    simp only [if_neg hpre, if_neg hev, if_neg (not_or_intro hpre hev), and_iff_right hdrawn, true_and]
    exact frame_read_write_dot h.frame h0 hdot0 _
  | fetch h0 h1 hdot =>
    have hpre : ¬(p.scanline = -1 ∧ p.cycle = 1) := by omega
    have hev : ¬(0 ≤ p.scanline ∧ p.scanline ≤ 239 ∧ p.cycle = 257) := by omega
    rw [pipelines_disabled cart p hoff, spriteFetch_disabled hb hs]
    simp only [if_neg hpre, if_neg hev, if_neg (not_or_intro hpre hev), true_and]
    exact fun y x => (if_neg (by omega)).symm
  | vblank hline hdot =>
    have hpre : ¬(p.scanline = -1 ∧ p.cycle = 1) := by omega
    have hev : ¬(0 ≤ p.scanline ∧ p.scanline ≤ 239 ∧ p.cycle = 257) := by omega
    simp only [if_neg hpre, if_neg hev, if_neg (not_or_intro hpre hev)]
    exact ⟨rfl, fun y x => (if_neg (by omega)).symm⟩
  | plain hpre hvblank hvisible =>
    have hev : ¬(0 ≤ p.scanline ∧ p.scanline ≤ 239 ∧ p.cycle = 257) := by omega
    rw [pipelines_disabled cart p hoff]
    simp only [if_neg hpre, if_neg hev, if_neg (not_or_intro hpre hev), true_and]
    exact fun y x => (if_neg (by omega)).symm

end Sys2Proof.Proofs
end

section
/-! The background pipeline (R410 to R420): what one dot does to the shifters, the latches and `v`, as one equation, and
that the rest of the dot leaves them alone. -/

namespace Sys2Proof.Proofs

open Sys2Proof.Machine Sys2Proof.Laws

/-! ## The addresses and the quadrant of an attribute byte -/

theorem attributeFetchAddr_eq (v : Loopy) :
    attributeFetchAddr v =
      0x23C0#14 ||| ((v &&& 0x0C00#15) ||| ((v >>> 4) &&& 0x38#15) ||| ((v >>> 2) &&& 0x07#15)).setWidth 14 := by
  rw [attributeFetchAddr, BitVec.setWidth_or, BitVec.setWidth_or, BitVec.or_assoc, BitVec.or_assoc, BitVec.or_assoc]

theorem attributeBits_eq (v : Loopy) (b : Byte) :
    attributeBits v b =
      (b >>> ((if v.getLsbD 6 then 4 else 0) + (if v.getLsbD 1 then 2 else 0))).setWidth 2 := by
  have hy : (coarseY v).getLsbD 1 = v.getLsbD 6 := by simp [coarseY]
  have hx : (coarseX v).getLsbD 1 = v.getLsbD 1 := by simp [coarseX]
  rw [attributeBits, hy, hx, BitVec.shiftRight_add]
  cases v.getLsbD 6 <;> cases v.getLsbD 1 <;> rfl

theorem patternFetchAddr_eq (table : Bool) (tile : Byte) (v : Loopy) (offset : Nat) :
    patternFetchAddr table tile (fineY v) offset =
      BitVec.ofNat 14 ((if table then 0x1000 else 0) + tile.toNat * 16 + (v >>> 12).toNat + offset) := by
  have hrow : (fineY v).toNat = (v >>> 12).toNat := by
    rw [fineY, BitVec.extractLsb'_toNat, BitVec.toNat_ushiftRight, Nat.shiftRight_eq_div_pow]
    omega
  rw [patternFetchAddr, hrow]
  cases table <;> rfl

/-! ## The schedule of one dot -/

/-- Steps 1 and 2 of the schedule (R410): the shifters. -/
def moveShifters (c : Nat) (p : Ppu) : Ppu :=
  (p.doWhen ((2 ≤ c && c ≤ 257) || (322 ≤ c && c ≤ 337)) Ppu.shiftBackground).doWhen
    (((9 ≤ c && c ≤ 257) || (329 ≤ c && c ≤ 337)) && c % 8 == 1) Ppu.reloadBackground

/-- Step 3 of the schedule: the fetches of an 8-dot group. -/
def fetchGroup (cart : Option Cartridge) (c : Nat) (p : Ppu) : Ppu :=
  p.doWhen ((1 ≤ c && c ≤ 256) || (321 ≤ c && c ≤ 336)) (Ppu.backgroundGroup cart ((c - 1) % 8))

/-- Steps 4 to 6 of the schedule: `v` at the ends of the picture line and of the pre-render line. -/
def moveScroll (s : Int) (c : Nat) (p : Ppu) : Ppu :=
  ((p.doWhen (c == 256) fun p => { p with v := incrementY p.v }).doWhen (c == 257) fun p =>
        { p with v := transferX p.t p.v }).doWhen
    (s == -1 && 280 ≤ c && c ≤ 304) fun p => { p with v := transferY p.t p.v }

theorem backgroundPipeline_steps (cart : Option Cartridge) (s : Int) (c : Nat) (p : Ppu) :
    p.backgroundPipeline cart s c =
      (moveScroll s c (fetchGroup cart c (moveShifters c p))).doWhen (c == 337 || c == 339) (Ppu.fetchNametable cart) :=
  rfl

/-- A shifter after a dot (R419). -/
def shifterAfter (c : Nat) (r : BitVec 16) (b : Byte) : BitVec 16 :=
  let shifted := if (2 ≤ c ∧ c ≤ 257) ∨ (322 ≤ c ∧ c ≤ 337) then r <<< 1 else r
  if ((9 ≤ c ∧ c ≤ 257) ∨ (329 ≤ c ∧ c ≤ 337)) ∧ c % 8 = 1 then loadLow shifted b else shifted

theorem moveShifters_eq (c : Nat) (p : Ppu) :
    moveShifters c p =
      { p with
        bgPatLo := shifterAfter c p.bgPatLo p.nextTileLsb
        bgPatHi := shifterAfter c p.bgPatHi p.nextTileMsb
        bgAttLo := shifterAfter c p.bgAttLo (if p.nextTileAttrib.getLsbD 0 then 0xFF#8 else 0x00#8)
        bgAttHi := shifterAfter c p.bgAttHi (if p.nextTileAttrib.getLsbD 1 then 0xFF#8 else 0x00#8) } := by
  unfold moveShifters Ppu.doWhen shifterAfter
  simp only [Bool.and_eq_true, Bool.or_eq_true, decide_eq_true_eq, beq_iff_eq]
  split <;> split <;> rfl

theorem backgroundGroup_eq (cart : Option Cartridge) (k : Nat) (p : Ppu) :
    p.backgroundGroup cart k =
      { p with
        nextTileId := if k = 0 then ppuRead cart p (nametableFetchAddr p.v) else p.nextTileId
        nextTileAttrib :=
          if k = 2 then attributeBits p.v (ppuRead cart p (attributeFetchAddr p.v)) else p.nextTileAttrib
        nextTileLsb := if k = 4 then p.patternByte cart 0 else p.nextTileLsb
        nextTileMsb := if k = 6 then p.patternByte cart 8 else p.nextTileMsb
        v := if k = 7 then incrementX p.v else p.v } := by
  unfold Ppu.backgroundGroup
  split
  case h_6 h0 h2 h4 h6 h7 => rw [if_neg h0, if_neg h2, if_neg h4, if_neg h6, if_neg h7]
  all_goals rfl

/-- A dot on which the groups fetch. -/
abbrev Fetches (c : Nat) : Prop := (1 ≤ c ∧ c ≤ 256) ∨ (321 ≤ c ∧ c ≤ 336)

theorem fetchGroup_eq (cart : Option Cartridge) (c : Nat) (p : Ppu) :
    fetchGroup cart c p =
      { p with
        nextTileId := if Fetches c ∧ c % 8 = 1 then ppuRead cart p (nametableFetchAddr p.v) else p.nextTileId
        nextTileAttrib :=
          if Fetches c ∧ c % 8 = 3 then attributeBits p.v (ppuRead cart p (attributeFetchAddr p.v))
          else p.nextTileAttrib
        nextTileLsb := if Fetches c ∧ c % 8 = 5 then p.patternByte cart 0 else p.nextTileLsb
        nextTileMsb := if Fetches c ∧ c % 8 = 7 then p.patternByte cart 8 else p.nextTileMsb
        v := if Fetches c ∧ c % 8 = 0 then incrementX p.v else p.v } := by
  unfold fetchGroup Ppu.doWhen
  by_cases h : Fetches c
  · have hpos : 1 ≤ c := by omega
    rw [if_pos (by simpa using h), backgroundGroup_eq]
    have dot (k r : Nat) (hr : r < 8) (hk : k = (r + 7) % 8) : (c - 1) % 8 = k ↔ c % 8 = r := by omega
    simp only [h, true_and, dot 0 1 (by decide) rfl, dot 2 3 (by decide) rfl, dot 4 5 (by decide) rfl,
      dot 6 7 (by decide) rfl, dot 7 0 (by decide) rfl]
  · rw [if_neg (by simpa using h)]
    simp only [h, false_and, if_false]

/-- `v` after the last steps of the schedule (R416 to R418). -/
theorem moveScroll_eq (s : Int) (c : Nat) (p : Ppu) :
    moveScroll s c p =
      { p with
        v :=
          if c = 256 then incrementY p.v
          else if c = 257 then transferX p.t p.v
          else if s = -1 ∧ 280 ≤ c ∧ c ≤ 304 then transferY p.t p.v
          else p.v } := by
  unfold moveScroll Ppu.doWhen
  simp only [Bool.and_eq_true, decide_eq_true_eq, beq_iff_eq, and_assoc]
  by_cases h256 : c = 256
  · rw [if_pos h256, if_pos h256, if_neg (by omega), if_neg (by omega)]
  by_cases h257 : c = 257
  · rw [if_neg h256, if_neg h256, if_pos h257, if_pos h257, if_neg (by omega)]
  · rw [if_neg h256, if_neg h256, if_neg h257, if_neg h257]
    split <;> rfl

/-- `v` over one dot (R415 to R418). -/
def scrollAfter (s : Int) (c : Nat) (t v : Loopy) : Loopy :=
  if c = 256 then incrementY (incrementX v)
  else if c = 257 then transferX t v
  else if s = -1 ∧ 280 ≤ c ∧ c ≤ 304 then transferY t v
  else if Fetches c ∧ c % 8 = 0 then incrementX v
  else v

/-- The increment of a group comes before the last steps, and only at cycle 256 on the same dot. -/
theorem moveScroll_fetchGroup_v (s : Int) (c : Nat) (t v : Loopy) :
    (if c = 256 then incrementY (if Fetches c ∧ c % 8 = 0 then incrementX v else v)
      else if c = 257 then transferX t (if Fetches c ∧ c % 8 = 0 then incrementX v else v)
      else if s = -1 ∧ 280 ≤ c ∧ c ≤ 304 then transferY t (if Fetches c ∧ c % 8 = 0 then incrementX v else v)
      else if Fetches c ∧ c % 8 = 0 then incrementX v else v) =
      scrollAfter s c t v := by
  unfold scrollAfter
  by_cases h256 : c = 256
  · rw [if_pos h256, if_pos h256, if_pos (by omega)]
  by_cases h257 : c = 257
  · rw [if_neg h256, if_neg h256, if_pos h257, if_pos h257, if_neg (by omega)]
  rw [if_neg h256, if_neg h256, if_neg h257, if_neg h257]
  by_cases htransfer : s = -1 ∧ 280 ≤ c ∧ c ≤ 304
  · rw [if_pos htransfer, if_pos htransfer, if_neg (by omega)]
  · rw [if_neg htransfer, if_neg htransfer]

/-- `v` stands still at the two fetches after the last group. -/
theorem scrollAfter_of_dummy_fetch (s : Int) {c : Nat} (h : c = 337 ∨ c = 339) (t v : Loopy) :
    scrollAfter s c t v = v := by
  unfold scrollAfter
  rw [if_neg (by omega), if_neg (by omega), if_neg (by omega), if_neg (by omega)]

/-- The PPU after the background pipeline's dot, register by register (R411 to R419). -/
def backgroundAfter (cart : Option Cartridge) (s : Int) (c : Nat) (p : Ppu) : Ppu :=
  { p with
    bgPatLo := shifterAfter c p.bgPatLo p.nextTileLsb
    bgPatHi := shifterAfter c p.bgPatHi p.nextTileMsb
    bgAttLo := shifterAfter c p.bgAttLo (if p.nextTileAttrib.getLsbD 0 then 0xFF#8 else 0x00#8)
    bgAttHi := shifterAfter c p.bgAttHi (if p.nextTileAttrib.getLsbD 1 then 0xFF#8 else 0x00#8)
    nextTileId :=
      if (Fetches c ∧ c % 8 = 1) ∨ c = 337 ∨ c = 339 then ppuRead cart p (nametableFetchAddr p.v) else p.nextTileId
    nextTileAttrib :=
      if Fetches c ∧ c % 8 = 3 then attributeBits p.v (ppuRead cart p (attributeFetchAddr p.v)) else p.nextTileAttrib
    nextTileLsb := if Fetches c ∧ c % 8 = 5 then p.patternByte cart 0 else p.nextTileLsb
    nextTileMsb := if Fetches c ∧ c % 8 = 7 then p.patternByte cart 8 else p.nextTileMsb
    v := scrollAfter s c p.t p.v }

theorem backgroundPipeline_eq (cart : Option Cartridge) (s : Int) (c : Nat) (p : Ppu) :
    p.backgroundPipeline cart s c = backgroundAfter cart s c p := by
  rw [backgroundPipeline_steps, moveScroll_eq, fetchGroup_eq, moveShifters_eq, Ppu.doWhen, backgroundAfter]
  simp only [moveScroll_fetchGroup_v, Bool.or_eq_true, beq_iff_eq]
  by_cases hdummy : c = 337 ∨ c = 339
  · rw [if_pos hdummy, if_pos (Or.inr hdummy), Ppu.fetchNametable, scrollAfter_of_dummy_fetch s hdummy]
    rfl
  · simp only [or_false, hdummy]
    rfl

/-! ## The rest of the dot -/

/-- A PPU without what the background pipeline neither reads nor writes. -/
def backgroundOnly (p : Ppu) : Ppu :=
  { p with
    spriteOverflow := false, spriteZeroHit := false, verticalBlank := false, scanline := 0, cycle := 0
    frameComplete := false, nmiOut := false, secOam := [], spriteCount := 0, slots := []
    spriteZeroPossible := false, frame := [], freeCount := 0 }

/-- The background pipeline does not see the rest of the PPU. -/
theorem backgroundOnly_backgroundPipeline (cart : Option Cartridge) (s : Int) (c : Nat) (p : Ppu) :
    backgroundOnly (p.backgroundPipeline cart s c) = (backgroundOnly p).backgroundPipeline cart s c := by
  rw [backgroundPipeline_eq, backgroundPipeline_eq]
  rfl

theorem backgroundOnly_spriteShift (c : Nat) (p : Ppu) : backgroundOnly (p.spriteShift c) = backgroundOnly p := by
  unfold Ppu.spriteShift
  split <;> rfl

section Rendering
variable {cart : Option Cartridge} {p : Ppu}

theorem pipelines_enabled (hr : p.rendering = true) (h0 : -1 ≤ p.scanline) (h1 : p.scanline ≤ 239) :
    pipelines cart p = (p.backgroundPipeline cart p.scanline p.cycle).spriteShift p.cycle := by
  simp [pipelines, Ppu.doWhen, hr, h0, h1]

theorem backgroundOnly_pipelines (hr : p.rendering = true) (h0 : -1 ≤ p.scanline) (h1 : p.scanline ≤ 239) :
    backgroundOnly (pipelines cart p) = backgroundOnly (p.backgroundPipeline cart p.scanline p.cycle) := by
  rw [pipelines_enabled hr h0 h1, backgroundOnly_spriteShift]

/-- With rendering enabled, the background registers after a dot are those that the pipeline gives. -/
theorem backgroundOnly_clock (hr : p.rendering = true) (h0 : -1 ≤ p.scanline) (h1 : p.scanline ≤ 239) :
    backgroundOnly (p.clock cart) = backgroundOnly (p.backgroundPipeline cart p.scanline p.cycle) := by
  obtain ⟨q, hq, hwork⟩ := clock_work cart p
  have hadvance : backgroundOnly q.advance = backgroundOnly q := by rw [advance_eq]; rfl
  rw [hq, hadvance]
  cases hwork with
  | preRender =>
    rw [backgroundOnly_pipelines (p := p.preRenderClear) hr h0 h1, backgroundOnly_backgroundPipeline,
      backgroundOnly_backgroundPipeline]
    rfl
  | evaluation => rw [spriteEvaluation_eq]; exact backgroundOnly_pipelines hr h0 h1
  | fetch => rw [spriteFetch_eq]; exact backgroundOnly_pipelines hr h0 h1
  | vblank => omega
  | picture => exact backgroundOnly_pipelines hr h0 h1
  | plain => exact backgroundOnly_pipelines hr h0 h1

end Rendering

/-- A function of the background registers after a dot. -/
theorem clock_background {cart : Option Cartridge} {p : Ppu} (hr : p.rendering = true) (h0 : -1 ≤ p.scanline)
    (h1 : p.scanline ≤ 239) {β : Type} (g : Ppu → β) (hg : ∀ q, g (backgroundOnly q) = g q) :
    g (p.clock cart) = g (backgroundAfter cart p.scanline p.cycle p) := by
  rw [← hg, backgroundOnly_clock hr h0 h1, hg, backgroundPipeline_eq]

/-- The fine-X tap of the four shifters (R420). -/
theorem backgroundPixel_eq (c : Nat) (p : Ppu) :
    let tap (r : BitVec 16) : Nat := if r.getLsbD (15 - p.fineX.toNat) then 1 else 0
    p.backgroundPixel c =
      if p.mask.getLsbD 3 = false ∨ (p.mask.getLsbD 1 = false ∧ c ≤ 8) then (0#2, 0#2)
      else
        (BitVec.ofNat 2 (2 * tap p.bgPatHi + tap p.bgPatLo), BitVec.ofNat 2 (2 * tap p.bgAttHi + tap p.bgAttLo)) := by
  have htwo (hi lo : Bool) : twoBits hi lo = BitVec.ofNat 2 (2 * (if hi then 1 else 0) + if lo then 1 else 0) := by
    cases hi <;> cases lo <;> rfl
  simp only [Ppu.backgroundPixel, Ppu.renderBackground, Ppu.renderBackgroundLeft, Bool.or_eq_true, Bool.and_eq_true,
    Bool.not_eq_true', decide_eq_true_eq, htwo]

/-- Settles O45: the scroll arithmetic by fields, the dot by the pipeline's equation, the pixel by its lemma. -/
theorem scrollArithmetic : Obligations.ScrollArithmetic := by
  refine ⟨fun t v => ⟨incrementX_eq v, incrementY_eq v, transferX_eq t v, transferY_eq t v⟩,
    fun cart p hr h0 h1 => ?_, fun p c => backgroundPixel_eq c p⟩
  have hpattern (offset : Nat) : p.patternByte cart offset =
      ppuRead cart p (BitVec.ofNat 14
        ((if p.ctrl.getLsbD 4 then 0x1000 else 0) + p.nextTileId.toNat * 16 + (p.v >>> 12).toNat + offset)) := by
    rw [Ppu.patternByte, patternFetchAddr_eq]
    rfl
  have after {β : Type} (g : Ppu → β) (hg : ∀ q, g (backgroundOnly q) = g q) :=
    clock_background (cart := cart) hr h0 h1 g hg
  have hlsb := hpattern 0
  rw [Nat.add_zero] at hlsb
  dsimp only
  rw [← attributeBits_eq, ← attributeFetchAddr_eq, ← hlsb, ← hpattern 8]
  exact ⟨⟨after Ppu.bgPatLo fun _ => rfl, after Ppu.bgPatHi fun _ => rfl, after Ppu.bgAttLo fun _ => rfl,
      after Ppu.bgAttHi fun _ => rfl⟩,
    ⟨after Ppu.nextTileId fun _ => rfl, after Ppu.nextTileAttrib fun _ => rfl, after Ppu.nextTileLsb fun _ => rfl,
      after Ppu.nextTileMsb fun _ => rfl⟩,
    after Ppu.v fun _ => rfl, after Ppu.t fun _ => rfl, after Ppu.fineX fun _ => rfl, after Ppu.w fun _ => rfl,
    after Ppu.ctrl fun _ => rfl, after Ppu.mask fun _ => rfl, after Ppu.oamAddr fun _ => rfl,
    after Ppu.dataBuffer fun _ => rfl, after Ppu.vram fun _ => rfl, after Ppu.palette fun _ => rfl,
    after Ppu.oam fun _ => rfl⟩

end Sys2Proof.Proofs
end

section
/-! Sprite evaluation (R426, R427): what the selection loop finds and where it stops, and which entries the overflow
search compares. -/

namespace Sys2Proof.Proofs

open Sys2Proof.Machine Sys2Proof.Laws

/-- The range test of the evaluation, on the Y byte of an OAM entry (R426). -/
def entryInRange (oam : Memory) (s h n : Nat) : Bool := inSpriteRange s h (Memory.read oam (4 * n))

theorem inSpriteRange_iff (s h : Nat) (y : Byte) : inSpriteRange s h y = true ↔ y.toNat ≤ s ∧ s < y.toNat + h := by
  simp only [inSpriteRange, Bool.and_eq_true, decide_eq_true_eq]
  omega

theorem visibleSprites_eq (oam : Memory) (s h : Nat) :
    visibleSprites oam s h = (List.range' 0 64).filter (entryInRange oam s h) := by
  rw [visibleSprites, List.range_eq_range']
  refine List.filter_congr fun n _ => ?_
  rw [entryInRange, Bool.eq_iff_iff, inSpriteRange_iff]
  simp only [Bool.and_eq_true, decide_eq_true_eq]
  omega

/-- The entries that the loop finds from entry `n` on, `count` being found before. -/
def selected (oam : Memory) (s h fuel n count : Nat) : List Nat :=
  ((List.range' n fuel).filter (entryInRange oam s h)).take (8 - count)

section Selected
variable {oam : Memory} {s h fuel n count : Nat}

theorem selected_full (hc : 8 ≤ count) : selected oam s h fuel n count = [] := by
  rw [selected, Nat.sub_eq_zero_of_le hc, List.take_zero]

theorem selected_hit (hc : count < 8) (hn : entryInRange oam s h n = true) :
    selected oam s h (fuel + 1) n count = n :: selected oam s h fuel (n + 1) (count + 1) := by
  rw [selected, List.range'_succ, List.filter_cons_of_pos hn, show 8 - count = 8 - (count + 1) + 1 by omega,
    List.take_succ_cons, selected]

theorem selected_miss (hn : ¬entryInRange oam s h n = true) :
    selected oam s h (fuel + 1) n count = selected oam s h fuel (n + 1) count := by
  rw [selected, List.range'_succ, List.filter_cons_of_neg hn, selected]

end Selected

/-- The selection loop (R426): the entries in OAM order, whether OAM sprite 0 is among them, and, when the eighth is
found, the entry after it. -/
structure Selects (oam : Memory) (count : Nat) (entries : List Nat) (r : SpriteSelection) : Prop where
  found : r.found = entries.map (oamEntry oam)
  hasZero : r.hasZero = true ↔ 0 ∈ entries
  next : ∀ m, entries[7 - count]? = some m → r.next = m + 1

theorem selectSprites_selects (oam : Memory) (s h fuel n : Nat) {count : Nat} (hc : count ≤ 8) :
    Selects oam count (selected oam s h fuel n count) (selectSprites oam s h fuel n count) := by
  induction fuel generalizing n count with
  | zero => exact ⟨by simp [selected, selectSprites], by simp [selected, selectSprites], by simp [selected]⟩
  | succ fuel ih =>
    unfold selectSprites
    by_cases hfull : 8 ≤ count
    · rw [if_pos hfull, selected_full hfull]
      exact ⟨rfl, by simp, by simp⟩
    rw [if_neg hfull]
    by_cases hn : entryInRange oam s h n = true
    · obtain ⟨hfound, hzero, hnext⟩ := ih (n + 1) (count := count + 1) (by omega)
      dsimp only
      rw [selected_hit (by omega) hn, if_pos (show inSpriteRange s h (oamEntry oam n).y = true from hn)]
      refine ⟨by rw [hfound]; rfl, by rw [Bool.or_eq_true, beq_iff_eq, hzero, List.mem_cons, eq_comm], fun m hm => ?_⟩
      by_cases hlast : count = 7
      · subst hlast
        have : n = m := by simpa using hm
        rw [← this]
        cases fuel <;> rfl
      · rw [show 7 - count = 7 - (count + 1) + 1 by omega, List.getElem?_cons_succ] at hm
        exact hnext m hm
    · dsimp only
      rw [selected_miss hn, if_neg (show ¬inSpriteRange s h (oamEntry oam n).y = true from hn)]
      exact ih (n + 1) hc

/-- The overflow search compares byte `j mod 4` of the `j`-th entry from entry `n` on (R427). -/
theorem overflowSearch_iff (oam : Memory) (s h fuel n : Nat) {m : Nat} (hm : m < 4) :
    overflowSearch true oam s h fuel n m = true ↔
      ∃ j, j < fuel ∧ inSpriteRange s h (Memory.read oam (4 * (n + j) + (m + j) % 4)) = true := by
  induction fuel generalizing n m with
  | zero => simp [overflowSearch]
  | succ fuel ih =>
    have hfirst : (m + 0) % 4 = m := Nat.mod_eq_of_lt hm
    have hstep (j : Nat) : 4 * (n + 1 + j) + ((m + 1) % 4 + j) % 4 = 4 * (n + (j + 1)) + (m + (j + 1)) % 4 := by omega
    rw [Nat.exists_lt_succ_left, overflowSearch, hfirst, Nat.add_zero n]
    by_cases hin : inSpriteRange s h (Memory.read oam (4 * n + m)) = true
    · simp [hin]
    · rw [if_neg hin, if_pos rfl, ih (n + 1) (Nat.mod_lt _ (by decide))]
      simp only [hin, false_or, hstep, Bool.false_eq_true]

/-- The evaluation with rendering enabled, as the selection and the search give it (R426, R427). -/
theorem spriteEvaluation_rendering {p : Ppu} (hr : p.rendering = true) (s : Nat) :
    let r := selectSprites p.oam s p.spriteHeight 64 0 0
    p.spriteEvaluation s =
      { p.clearSprites with
        secOam := r.found ++ List.replicate (8 - r.found.length) SpriteEntry.blank
        spriteCount := r.found.length
        spriteZeroPossible := r.hasZero
        spriteOverflow :=
          p.spriteOverflow ||
            (decide (8 ≤ r.found.length) && overflowSearch true p.oam s p.spriteHeight (64 - r.next) r.next 0) } := by
  have : p.clearSprites.rendering = true := hr
  simp only [Ppu.spriteEvaluation, this]
  rfl

/-- The flag after the eighth sprite (R427): the search begins at the entry after the eighth. -/
theorem overflow_iff {oam : Memory} {entries : List Nat} {r : SpriteSelection} (hr : Selects oam 0 entries r)
    (s h : Nat) :
    (decide (8 ≤ r.found.length) && overflowSearch true oam s h (64 - r.next) r.next 0) = true ↔
      ∃ n j,
        entries[7]? = some n ∧
          n + 1 + j < 64 ∧
            (Memory.read oam (4 * (n + 1 + j) + j % 4)).toNat ≤ s ∧
              s < (Memory.read oam (4 * (n + 1 + j) + j % 4)).toNat + h := by
  simp only [Bool.and_eq_true, decide_eq_true_eq, overflowSearch_iff oam s h _ _ (show 0 < 4 by decide), hr.found,
    List.length_map, inSpriteRange_iff, Nat.zero_add]
  constructor
  · rintro ⟨hlen, j, hj, hin⟩
    have hn := List.getElem?_eq_getElem (show 7 < entries.length by omega)
    have hnext := hr.next _ hn
    rw [hnext] at hj hin
    exact ⟨_, j, hn, by omega, hin⟩
  · rintro ⟨n, j, hn, hj, hin⟩
    have hlen := (List.getElem?_eq_some_iff.1 hn).1
    rw [hr.next n hn]
    exact ⟨by omega, j, by omega, hin⟩

theorem spriteEvaluation_results {p : Ppu} (hr : p.rendering = true) (s : Nat) :
    let h := if p.ctrl.getLsbD 5 then 16 else 8
    let found := (visibleSprites p.oam s h).take 8
    let q := p.spriteEvaluation s
    q.spriteCount = found.length ∧
      q.secOam = found.map (oamEntry p.oam) ++ List.replicate (8 - found.length) ⟨0xFF#8, 0xFF#8, 0xFF#8, 0xFF#8⟩ ∧
        (q.spriteZeroPossible = true ↔ 0 ∈ found) ∧
          (q.spriteOverflow = true ↔
            p.spriteOverflow = true ∨
              ∃ n j,
                found[7]? = some n ∧
                  n + 1 + j < 64 ∧
                    (Memory.read p.oam (4 * (n + 1 + j) + j % 4)).toNat ≤ s ∧
                      s < (Memory.read p.oam (4 * (n + 1 + j) + j % 4)).toNat + h) := by
  intro h found q
  have hselects : Selects p.oam 0 found (selectSprites p.oam s h 64 0 0) := by
    have := selectSprites_selects p.oam s h 64 0 (count := 0) (by decide)
    rwa [selected, ← visibleSprites_eq] at this
  have hq : q = _ := spriteEvaluation_rendering hr s
  have hlength : (selectSprites p.oam s h 64 0 0).found.length = found.length := by rw [hselects.found, List.length_map]
  rw [hq, ← hlength]
  refine ⟨rfl, ?_, hselects.hasZero, ?_⟩
  · rw [← hselects.found]
    rfl
  · rw [← overflow_iff hselects s h, ← Bool.or_eq_true]
    rfl

end Sys2Proof.Proofs
end

section
/-! The sprite slots (R428 to R432): the shift, the clears and the fetch over one dot, and the sprite pixel. -/

namespace Sys2Proof.Proofs

open Sys2Proof.Machine Sys2Proof.Laws

/-! ## The fetch -/

theorem bitReverse8_eq_reverse : ∀ b : Byte, bitReverse8 b = b.reverse := by decide

/-- A pattern address by its three parts: table, tile and row (R428). -/
theorem patternAddr_eq_add (table : Bool) {tile row : Nat} (ht : tile < 256) (hr : row < 16) :
    table.toNat * 0x1000 ||| tile * 16 ||| row = (if table then 0x1000 else 0) + tile * 16 + row := by
  have htable : table.toNat * 0x1000 ||| tile * 16 = 2 ^ 4 * ((if table then 256 else 0) + tile) := by
    cases table with
    | false => simp [Nat.mul_comm]
    | true =>
      have := Nat.two_pow_add_eq_or_of_lt (i := 12) (show tile * 16 < 2 ^ 12 by omega) 1
      rw [Nat.mul_one] at this
      rw [Bool.toNat_true, Nat.one_mul, ← this, if_pos rfl]
      omega
  rw [htable, ← Nat.two_pow_add_eq_or_of_lt hr]
  split <;> omega

/-- The address of plane 0 of a sprite row within the height (R428, R429). -/
theorem spritePatternAddr_eq (tall table : Bool) (e : SpriteEntry) {row : Nat}
    (hrow : row < if tall then 16 else 8) :
    let r := if e.attr.getLsbD 7 then (if tall then 16 else 8) - 1 - row else row
    spritePatternAddr tall table e row =
      BitVec.ofNat 14
        (if tall then
          (if e.id.getLsbD 0 then 0x1000 else 0) + ((e.id &&& 0xFE#8).toNat + if 8 ≤ r then 1 else 0) * 16 + r % 8
        else (if table then 0x1000 else 0) + e.id.toNat * 16 + r) := by
  intro r
  cases tall with
  | true =>
    have hid : (e.id &&& 0xFE#8).toNat < 255 := by
      rw [BitVec.toNat_and]
      exact Nat.lt_succ_of_le Nat.and_le_right
    rw [if_pos rfl, ← patternAddr_eq_add _ (by split <;> omega) (by omega)]
    rfl
  | false =>
    have hr : r < 16 := by
      simp only [r]
      simp only [Bool.false_eq_true, if_false] at hrow ⊢
      split <;> omega
    rw [if_neg (by decide), ← patternAddr_eq_add _ e.id.isLt hr]
    rfl

/-- The two pattern bytes of an active slot (R428), for a row within the height. -/
theorem spritePatternByte_of_row (cart : Option Cartridge) {s : Nat} (i plane : Nat) {p : Ppu} {e : SpriteEntry}
    (h0 : e.y.toNat ≤ s) (h1 : s < e.y.toNat + p.spriteHeight) :
    p.spritePatternByte cart s i plane e =
      ppuRead cart p
        (spritePatternAddr p.spriteSize p.patternSprite e (s - e.y.toNat) + BitVec.ofNat 14 (8 * plane)) :=
  if_pos ((inSpriteRange_iff s p.spriteHeight e.y).2 ⟨h0, h1⟩)

section FetchSlots
variable (cart : Option Cartridge) (s count : Nat) (p : Ppu)

/-- The fetch leaves the slots from number `count` on. -/
theorem fetchSlots_other (i : Nat) (slots : List SpriteSlot) (entries : List SpriteEntry) {k : Nat}
    (hk : count ≤ i + k) : (p.fetchSlots cart s count i slots entries)[k]? = slots[k]? := by
  induction slots generalizing i entries k with
  | nil => cases entries <;> rfl
  | cons sl slots ih =>
    cases entries with
    | nil => rfl
    | cons e entries =>
      cases k with
      | zero => rw [Ppu.fetchSlots, if_neg (by omega)]; rfl
      | succ k => exact ih (i + 1) entries (by omega)

/-- The fetch fills the slots below number `count` from their entries. -/
theorem fetchSlots_active (i : Nat) (slots : List SpriteSlot) (entries : List SpriteEntry) {k : Nat} {e : SpriteEntry}
    (hlen : entries.length ≤ slots.length) (he : entries[k]? = some e) (hk : i + k < count) :
    (p.fetchSlots cart s count i slots entries)[k]? = some (p.fetchSlot cart s (i + k) e) := by
  induction entries generalizing i slots k with
  | nil => cases he
  | cons e' entries ih =>
    cases slots with
    | nil => cases hlen
    | cons sl slots =>
      cases k with
      | zero =>
        cases he
        rw [Ppu.fetchSlots, if_pos (show i < count from hk)]
        rfl
      | succ k =>
        have := ih (i + 1) slots (Nat.le_of_succ_le_succ hlen) he (by omega)
        rwa [Nat.add_right_comm, Nat.add_assoc] at this

end FetchSlots

/-! ## The slots over one dot -/

/-- The elements of a list whose first `n` are mapped. -/
theorem getElem?_map_take_append_drop {α : Type} (f : α → α) (l : List α) (n i : Nat) :
    ((l.take n).map f ++ l.drop n)[i]? = l[i]?.map fun x => if i < n then f x else x := by
  induction l generalizing n i with
  | nil => simp
  | cons x l ih =>
    cases n with
    | zero => simp
    | succ n =>
      cases i with
      | zero => simp
      | succ i => simpa using ih n i

/-- Slot `i` after the shift of a dot at cycle `c` (R431). -/
def slotAfter (c count i : Nat) (sl : SpriteSlot) : SpriteSlot :=
  if ¬((2 ≤ c ∧ c ≤ 257) ∧ i < count) then sl else sl.shift

theorem spriteShift_slots (c : Nat) (p : Ppu) (i : Nat) :
    (p.spriteShift c).slots[i]? = p.slots[i]?.map (slotAfter c p.spriteCount i) := by
  by_cases h : 2 ≤ c ∧ c ≤ 257
  · rw [Ppu.spriteShift, if_pos (by simpa using h)]
    refine (getElem?_map_take_append_drop _ _ _ _).trans (congrArg (Option.map · _) (funext fun sl => ?_))
    simp only [slotAfter, h, and_self, true_and, ite_not]
  · have hkeep : slotAfter c p.spriteCount i = id := funext fun sl => if_pos fun hshift => h hshift.1
    rw [Ppu.spriteShift, if_neg (by simpa using h), hkeep, Option.map_id]
    rfl

theorem spriteEvaluation_slots (s : Nat) (p : Ppu) :
    (p.spriteEvaluation s).slots = p.slots.map SpriteSlot.clearPattern := by
  unfold Ppu.spriteEvaluation
  dsimp only
  split <;> rfl

section Rendering
variable {cart : Option Cartridge} {p : Ppu} (hr : p.rendering = true) (h0 : -1 ≤ p.scanline) (h1 : p.scanline ≤ 239)
include hr h0 h1

theorem pipelines_slots (i : Nat) :
    (pipelines cart p).slots[i]? = p.slots[i]?.map (slotAfter p.cycle p.spriteCount i) := by
  rw [pipelines_enabled hr h0 h1, spriteShift_slots, backgroundPipeline_eq]
  rfl

end Rendering

/-- The evaluation but for the slots does not see the pipelines. -/
theorem spriteEvaluation_pipelines (cart : Option Cartridge) (s : Nat) (p : Ppu) :
    exceptPipelines ((pipelines cart p).spriteEvaluation s) = exceptPipelines (p.spriteEvaluation s) := by
  refine pipelines_keeps (fun q => exceptPipelines (q.spriteEvaluation s)) (fun q => ?_) cart p
  cases hr : q.rendering with
  | false =>
    have hoff (r : Ppu) (h : r.rendering = false) : r.spriteEvaluation s = r.clearSprites :=
      if_pos (show (!r.rendering) = true by rw [h]; rfl)
    rw [hoff q hr, hoff (exceptPipelines q) hr]
    rfl
  | true =>
    rw [spriteEvaluation_rendering hr, spriteEvaluation_rendering (p := exceptPipelines q) hr]
    rfl

/-- The evaluation's results over one dot (R402, R426, R427). -/
theorem clock_evaluation (cart : Option Cartridge) (p : Ppu) :
    let q := p.clock cart
    let evaluated := p.spriteEvaluation p.scanline.toNat
    let preRender := p.scanline = -1 ∧ p.cycle = 1
    let evaluates := (0 ≤ p.scanline ∧ p.scanline ≤ 239) ∧ p.cycle = 257
    q.spriteCount = (if preRender then 0 else if evaluates then evaluated.spriteCount else p.spriteCount) ∧
      q.secOam = (if evaluates then evaluated.secOam else p.secOam) ∧
        q.spriteZeroPossible =
            (if preRender then false
            else if evaluates then evaluated.spriteZeroPossible else p.spriteZeroPossible) ∧
          q.spriteOverflow =
            (if preRender then false else if evaluates then evaluated.spriteOverflow else p.spriteOverflow) := by
  obtain ⟨q, hq, hwork⟩ := clock_work cart p
  dsimp only
  rw [hq, advance_spriteCount, advance_secOam, advance_spriteZeroPossible, advance_spriteOverflow]
  by_cases hpre : p.scanline = -1 ∧ p.cycle = 1
  · have hev : ¬((0 ≤ p.scanline ∧ p.scanline ≤ 239) ∧ p.cycle = 257) := by omega
    simp only [if_pos hpre, if_neg hev]
    cases hwork with
    | preRender => simp [Ppu.preRenderClear]
    | evaluation | fetch | vblank | picture | plain => omega
  by_cases hev : (0 ≤ p.scanline ∧ p.scanline ≤ 239) ∧ p.cycle = 257
  · simp only [if_neg hpre, if_pos hev]
    cases hwork with
    | evaluation =>
      have h := spriteEvaluation_pipelines cart p.scanline.toNat p
      have hcount := congrArg Ppu.spriteCount h
      have hentries := congrArg Ppu.secOam h
      have hzero := congrArg Ppu.spriteZeroPossible h
      have hoverflow := congrArg Ppu.spriteOverflow h
      exact ⟨hcount, hentries, hzero, hoverflow⟩
    | preRender | fetch | vblank | picture | plain => omega
  simp only [if_neg hpre, if_neg hev]
  cases hwork with
  | preRender | evaluation => omega
  | fetch => rw [spriteFetch_eq]; simp
  | vblank => exact ⟨rfl, rfl, rfl, rfl⟩
  | picture => simp [Ppu.pixelOutput]
  | plain => simp

/-- The slots over a dot that fetches nothing: the shift, then the clears (R402, R426, R431). -/
theorem clock_slots {p : Ppu} (cart : Option Cartridge) (hr : p.rendering = true) (h0 : -1 ≤ p.scanline)
    (h1 : p.scanline ≤ 239) (hfetch : ¬(0 ≤ p.scanline ∧ p.cycle = 320)) (i : Nat) :
    (p.clock cart).slots[i]? =
      p.slots[i]?.map fun sl =>
        if (p.scanline = -1 ∧ p.cycle = 1) ∨ (0 ≤ p.scanline ∧ p.cycle = 257) then
          (slotAfter p.cycle p.spriteCount i sl).clearPattern
        else slotAfter p.cycle p.spriteCount i sl := by
  obtain ⟨q, hq, hwork⟩ := clock_work cart p
  rw [hq, advance_slots]
  cases hwork with
  | preRender hs hc =>
    have hkeep (count : Nat) (sl : SpriteSlot) : slotAfter p.cycle count i sl = sl := if_pos (by omega)
    have hkeep' (count : Nat) : slotAfter p.preRenderClear.cycle count i = id := funext (hkeep count)
    simp only [if_pos (Or.inl (And.intro hs hc)), hkeep]
    rw [pipelines_slots (p := p.preRenderClear) hr h0 h1, hkeep', Option.map_id]
    exact List.getElem?_map
  | evaluation hs _ hc =>
    simp only [if_pos (Or.inr (And.intro hs hc))]
    rw [spriteEvaluation_slots, List.getElem?_map, pipelines_slots hr h0 h1, Option.map_map]
    rfl
  | fetch hs _ hc => exact absurd ⟨hs, hc⟩ hfetch
  | vblank => omega
  | picture =>
    simp only [if_neg (show ¬((p.scanline = -1 ∧ p.cycle = 1) ∨ (0 ≤ p.scanline ∧ p.cycle = 257)) by omega)]
    exact pipelines_slots hr h0 h1 i
  | plain =>
    simp only [if_neg (show ¬((p.scanline = -1 ∧ p.cycle = 1) ∨ (0 ≤ p.scanline ∧ p.cycle = 257)) by omega)]
    exact pipelines_slots hr h0 h1 i

section Fetch
variable {p : Ppu} (cart : Option Cartridge) (h0 : 0 ≤ p.scanline) (h1 : p.scanline ≤ 239) (hc : p.cycle = 320)
  (hr : p.rendering = true)
include h0 h1 hc hr

/-- At the fetch dot the slots are those of the fetch, over slots that have not moved (R428). -/
theorem clock_fetch_slots :
    ∃ slots : List SpriteSlot,
      (∀ i : Nat, slots[i]? = p.slots[i]?) ∧
        (p.clock cart).slots =
          (pipelines cart p).fetchSlots cart p.scanline.toNat p.spriteCount 0 slots p.secOam := by
  refine ⟨(pipelines cart p).slots, fun i => ?_, ?_⟩
  · have hkeep : slotAfter p.cycle p.spriteCount i = id := funext fun sl => if_pos (by omega)
    rw [pipelines_slots hr (by omega) h1, hkeep, Option.map_id]
    rfl
  · obtain ⟨q, hq, hwork⟩ := clock_work cart p
    rw [hq, advance_slots]
    cases hwork with
    | fetch =>
      have hr' : (pipelines cart p).rendering = true :=
        (pipelines_keeps Ppu.rendering (fun _ => rfl) cart p).trans hr
      simp [Ppu.spriteFetch, hr']
    | preRender | evaluation | vblank | picture | plain => omega

theorem clock_fetch_other {i : Nat} (hi : p.spriteCount ≤ i) : (p.clock cart).slots[i]? = p.slots[i]? := by
  obtain ⟨slots, hslots, hclock⟩ := clock_fetch_slots cart h0 h1 hc hr
  rw [hclock, fetchSlots_other _ _ _ _ _ _ _ (by omega), hslots]

theorem clock_fetch_active (hp : p.Inv) {i : Nat} {e : SpriteEntry} (he : p.secOam[i]? = some e)
    (hi : i < p.spriteCount) :
    (p.clock cart).slots[i]? = some ((pipelines cart p).fetchSlot cart p.scanline.toNat i e) := by
  obtain ⟨slots, hslots, hclock⟩ := clock_fetch_slots cart h0 h1 hc hr
  have hlength : p.secOam.length ≤ slots.length := by
    rw [List.ext_getElem? hslots, hp.secOam, hp.slots]
  have hfilled := fetchSlots_active cart p.scanline.toNat p.spriteCount (pipelines cart p) 0 slots p.secOam hlength he
    (show 0 + i < p.spriteCount by omega)
  rwa [Nat.zero_add, ← hclock] at hfilled

end Fetch

/-- A slot filled from an entry whose row lies within the height (R428 to R430). -/
theorem fetchSlot_of_row (cart : Option Cartridge) {s : Nat} (i : Nat) {p : Ppu} {e : SpriteEntry}
    (hy0 : e.y.toNat ≤ s) (hy1 : s < e.y.toNat + p.spriteHeight) :
    let h := if p.spriteSize then 16 else 8
    let row := s - e.y.toNat
    let r := if e.attr.getLsbD 7 then h - 1 - row else row
    let a :=
      if p.spriteSize then
        (if e.id.getLsbD 0 then 0x1000 else 0) + ((e.id &&& 0xFE#8).toNat + if 8 ≤ r then 1 else 0) * 16 + r % 8
      else (if p.patternSprite then 0x1000 else 0) + e.id.toNat * 16 + r
    let flip (b : Byte) : Byte := if e.attr.getLsbD 6 then b.reverse else b
    p.fetchSlot cart s i e =
      ⟨flip (ppuRead cart p (BitVec.ofNat 14 a)), flip (ppuRead cart p (BitVec.ofNat 14 (a + 8))), e.x, e.attr⟩ := by
  intro h row r a flip
  have haddr : spritePatternAddr p.spriteSize p.patternSprite e row = BitVec.ofNat 14 a :=
    spritePatternAddr_eq p.spriteSize p.patternSprite e (row := row) (by
      have : s < e.y.toNat + h := hy1
      omega)
  have hbyte (plane : Nat) :
      p.spritePatternByte cart s i plane e = ppuRead cart p (BitVec.ofNat 14 (a + 8 * plane)) := by
    rw [spritePatternByte_of_row cart i plane hy0 hy1, haddr, BitVec.ofNat_add]
  rw [Ppu.fetchSlot, hbyte, hbyte, bitReverse8_eq_reverse, bitReverse8_eq_reverse]
  rfl

/-! ## The pixel -/

/-- The pixel that slot `i` shows when it wins (R432). -/
def slotPixel (zeroPossible : Bool) (i : Nat) (sl : SpriteSlot) : SpritePixel :=
  ⟨sl.pixel, (sl.attr &&& 0x03#8).setWidth 3 + 4#3, !sl.attr.getLsbD 5, decide (i = 0) && zeroPossible⟩

/-- An opaque slot whose X has counted down (R432). -/
abbrev SlotOpaque (sl : SpriteSlot) : Prop := sl.x = 0#8 ∧ sl.pixel ≠ 0#2

theorem firstOpaque_of_none {zeroPossible : Bool} {i : Nat} {slots : List SpriteSlot}
    (h : ∀ (k : Nat) (sl : SpriteSlot), slots[k]? = some sl → ¬SlotOpaque sl) :
    firstOpaque zeroPossible i slots = SpritePixel.none := by
  induction slots generalizing i with
  | nil => rfl
  | cons sl slots ih =>
    rw [firstOpaque, if_neg (h 0 sl rfl)]
    exact ih fun k => h (k + 1)

theorem firstOpaque_of_first {zeroPossible : Bool} {i k : Nat} {slots : List SpriteSlot} {sl : SpriteSlot}
    (hk : slots[k]? = some sl) (hopaque : SlotOpaque sl)
    (hfirst : ∀ (j : Nat) (other : SpriteSlot), j < k → slots[j]? = some other → ¬SlotOpaque other) :
    firstOpaque zeroPossible i slots = slotPixel zeroPossible (i + k) sl := by
  induction slots generalizing i k with
  | nil => cases hk
  | cons sl' slots ih =>
    cases k with
    | zero =>
      cases hk
      rw [firstOpaque, if_pos hopaque]
      rfl
    | succ k =>
      rw [firstOpaque, if_neg (hfirst 0 sl' (Nat.succ_pos k) rfl), Nat.add_comm k 1, ← Nat.add_assoc]
      exact ih hk fun j other hj => hfirst (j + 1) other (Nat.succ_lt_succ hj)

theorem slot_pixel_eq (sl : SpriteSlot) :
    sl.pixel = BitVec.ofNat 2 ((if sl.patHi.getLsbD 7 then 2 else 0) + if sl.patLo.getLsbD 7 then 1 else 0) := by
  rw [SpriteSlot.pixel, twoBits]
  cases sl.patHi.getLsbD 7 <;> cases sl.patLo.getLsbD 7 <;> rfl

/-- The sprite pixel where the layer is off or clipped, and where it is not (R432). -/
theorem spritePixel_eq (c : Nat) (p : Ppu) :
    p.spritePixel c =
      if p.mask.getLsbD 4 = false ∨ (p.mask.getLsbD 2 = false ∧ c ≤ 8) then SpritePixel.none
      else firstOpaque p.spriteZeroPossible 0 (p.slots.take p.spriteCount) := by
  simp only [Ppu.spritePixel, Ppu.renderSprites, Ppu.renderSpritesLeft, Bool.or_eq_true, Bool.and_eq_true,
    Bool.not_eq_true', decide_eq_true_eq]

/-- The slots that the sprite pixel looks at are those below `sprite_count`. -/
theorem take_getElem?_iff (slots : List SpriteSlot) (count i : Nat) (sl : SpriteSlot) :
    (slots.take count)[i]? = some sl ↔ i < count ∧ slots[i]? = some sl := by
  rw [List.getElem?_take]
  split <;> simp [*]

theorem spritePixel_results (p : Ppu) (c : Nat) :
    let masked := p.mask.getLsbD 4 = false ∨ (p.mask.getLsbD 2 = false ∧ c ≤ 8)
    let opaqueAt (i : Nat) (sl : SpriteSlot) : Prop := i < p.spriteCount ∧ p.slots[i]? = some sl ∧ SlotOpaque sl
    (masked → p.spritePixel c = SpritePixel.none) ∧
      ((∀ i sl, ¬opaqueAt i sl) → p.spritePixel c = SpritePixel.none) ∧
        ∀ i sl, ¬masked → opaqueAt i sl → (∀ j other, j < i → ¬opaqueAt j other) →
          p.spritePixel c = slotPixel p.spriteZeroPossible i sl := by
  intro masked opaqueAt
  have hactive {i : Nat} {sl : SpriteSlot} (h : (p.slots.take p.spriteCount)[i]? = some sl) (ho : SlotOpaque sl) :
      opaqueAt i sl := by
    rw [take_getElem?_iff] at h
    exact ⟨h.1, h.2, ho⟩
  rw [spritePixel_eq]
  refine ⟨fun hmasked => if_pos hmasked, fun hnone => ?_, fun i sl hmasked ⟨hi, hsl, ho⟩ hfirst => ?_⟩
  · split
    · rfl
    · exact firstOpaque_of_none fun i sl h ho => hnone i sl (hactive h ho)
  · rw [if_neg hmasked, firstOpaque_of_first ((take_getElem?_iff _ _ _ _).2 ⟨hi, hsl⟩) ho
      fun j other hj h ho' => hfirst j other hj (hactive h ho'), Nat.zero_add]

/-- Settles O49: the evaluation, the slots of a dot, and the pixel, each by its lemmas. -/
theorem spriteEvaluation : Obligations.SpriteEvaluation := by
  refine ⟨fun p s hr => spriteEvaluation_results hr s, fun cart p hp hr h0 h1 => ?_, fun p c => ?_⟩
  · have hsize : (pipelines cart p).spriteSize = p.ctrl.getLsbD 5 :=
      pipelines_keeps Ppu.spriteSize (fun _ => rfl) cart p
    have htable : (pipelines cart p).patternSprite = p.ctrl.getLsbD 3 :=
      pipelines_keeps Ppu.patternSprite (fun _ => rfl) cart p
    refine ⟨?_, fun hfetch i => clock_slots cart hr h0 h1 hfetch i, fun hfetch i => ⟨?_, fun e he hi => ⟨?_, ?_⟩⟩⟩
    · simpa only [h1, and_true] using clock_evaluation cart p
    · exact clock_fetch_other cart hfetch.1 h1 hfetch.2 hr
    · exact ⟨_, _, clock_fetch_active cart hfetch.1 h1 hfetch.2 hr hp he hi⟩
    · intro hy0 hy1
      have hrow : p.scanline.toNat < e.y.toNat + (pipelines cart p).spriteHeight := by
        rw [Ppu.spriteHeight, hsize]
        exact hy1
      have hslot := fetchSlot_of_row cart i hy0 hrow
      simp only [hsize, htable, ppuRead_pipelines] at hslot
      rw [clock_fetch_active cart hfetch.1 h1 hfetch.2 hr hp he hi, hslot]
  · have := spritePixel_results p c
    simpa only [slotPixel, SlotOpaque, slot_pixel_eq, SpritePixel.none] using this

end Sys2Proof.Proofs
end

section
/-! The decoder and the encoder (30_encoding.md) are inverse to each other: every instruction by the lemma of its
constructor, and every cell of the opcode map by its opcode and its operand bytes. -/

namespace Sys2Proof.Proofs

open Sys2Proof.Machine Sys2Proof.Laws

/-- Every instruction is read back from its encoding, by the lemma of its mnemonic; the instructions with no choice of
form need only their own row. -/
theorem encodeDecode_statement (i : Instr) : EncodeDecode.Statement i := by
  cases i with
  | lda m => exact EncodeDecode.lda m
  | ldx m => exact EncodeDecode.ldx m
  | ldy m => exact EncodeDecode.ldy m
  | adc m => exact EncodeDecode.adc m
  | sbc m => exact EncodeDecode.sbc m
  | and m => exact EncodeDecode.and m
  | ora m => exact EncodeDecode.ora m
  | eor m => exact EncodeDecode.eor m
  | cmp m => exact EncodeDecode.cmp m
  | cpx m => exact EncodeDecode.cpx m
  | cpy m => exact EncodeDecode.cpy m
  | sta m => exact EncodeDecode.sta m
  | stx m => exact EncodeDecode.stx m
  | sty m => exact EncodeDecode.sty m
  | bit m => exact EncodeDecode.bit m
  | inc m => exact EncodeDecode.inc m
  | dec m => exact EncodeDecode.dec m
  | asl m => exact EncodeDecode.asl m
  | lsr m => exact EncodeDecode.lsr m
  | rol m => exact EncodeDecode.rol m
  | ror m => exact EncodeDecode.ror m
  | jmp t => exact EncodeDecode.jmp t
  | jsr w => exact EncodeDecode.jsr w
  | _ => exact fun _ => ⟨_, rfl, rfl, rfl, rfl⟩

/-- Settles O1: by the number of operand bytes, every instruction being read back by the opcode map. -/
theorem decodeOfEncode : Obligations.DecodeOfEncode :=
  fun i rest hwf => decode_encode_append (encodeDecode_statement i) hwf rest

/-- Each cell of the opcode map holds an instruction of that opcode (R111). The opcode does not depend on the operand
bytes, so the 256 cells evaluate with `b1` and `b2` left open. -/
theorem opcode_instrOf (op b1 b2 : Byte) : (instrOf op b1 b2).opcode? = some op :=
  of_decide_eq_true (p := ∀ op, (instrOf op b1 b2).opcode? = some op) rfl op

theorem wordBytes_wordOf (lo hi : Byte) : wordBytes (wordOf lo hi) = [lo, hi] := by
  rw [wordBytes, loByte_wordOf, hiByte_wordOf]

/-- No operand byte is lost: each cell keeps as many of them as its instruction is long (R112 to R114). -/
theorem operandBytes_instrOf (op b1 b2 : Byte) :
    (instrOf op b1 b2).operandBytes = [b1, b2].take ((instrOf op b1 b2).length - 1) := by
  simp only [instrOf, decodeRow0, decodeRow1, decodeRow2, decodeRow3, decodeRow4, decodeRow5, decodeRow6, decodeRow7,
    decodeRow8, decodeRow9, decodeRowA, decodeRowB, decodeRowC, decodeRowD, decodeRowE, decodeRowF]
  split <;> split <;>
    simp only [Instr.operandBytes, ReadOperand.bytes, ShiftOperand.bytes, MemOperand.bytes, wordBytes_wordOf] <;> rfl

theorem length_instrOf (op b1 b2 : Byte) : (instrOf op b1 b2).length = opcodeLength op := by
  obtain ⟨op', hop, hlen, -, -⟩ := encodeDecode_statement _ (instrOf_wf op b1 b2)
  cases (opcode_instrOf op b1 b2).symm.trans hop
  exact hlen.symm

/-- What the opcode map makes of bytes is encoded as those bytes, as many as the opcode says. -/
theorem encode_instrOf (op b1 b2 : Byte) :
    encode (instrOf op b1 b2) = op :: [b1, b2].take (opcodeLength op - 1) := by
  rw [encode_of_opcode (opcode_instrOf op b1 b2), operandBytes_instrOf, length_instrOf]

/-- Settles O2: by the three lengths of what the decoder can answer. -/
theorem encodeOfDecode : Obligations.EncodeOfDecode := by
  intro bytes rest i h
  rcases decode_ok_cases h with ⟨op, hlen, rfl, rfl⟩ | ⟨op, b1, hlen, rfl, rfl⟩ | ⟨op, b1, b2, hlen, rfl, rfl⟩
  all_goals
    refine ⟨instrOf_wf .., ?_⟩
    rw [encode_instrOf, hlen]
    rfl

end Sys2Proof.Proofs
end

section
/-! The registers of the APU (R471, R476 to R479, R487, R491, R501, R511, R512). -/

namespace Sys2Proof.Proofs

open Sys2Proof.Machine Sys2Proof.Laws

theorem extractLsb'_zero_eq {w : Nat} (x : BitVec w) (n : Nat) : x.extractLsb' 0 n = x.setWidth n := by
  rw [← BitVec.setWidth_ushiftRight_eq_extractLsb, BitVec.ushiftRight_zero]

/-- `LENGTH_TABLE` as bytes (R487). -/
def lengthBytes : List Byte := lengthTable.map (BitVec.ofNat 8)

theorem lengthLoad_eq (d : Byte) : lengthLoad d = lengthBytes.getD (d >>> 3).toNat 0#8 := by
  rw [lengthBytes, List.getD_map lengthTable 0 (BitVec.ofNat 8), BitVec.toNat_ushiftRight,
    Nat.shiftRight_eq_div_pow]
  rfl

/-- Settles O50: the fields of each register by their bits, the length by its index in the table. -/
theorem apuRegisterWrites : Obligations.ApuRegisterWrites := by
  intro a d lengths load low high control sweep restart
  have hload (enabled : Bool) (old : Byte) : (if enabled then lengthLoad d else old) = load enabled old := by
    rw [lengthLoad_eq]
    rfl
  have hcontrol (p : Pulse) : p.writeControl d = control p := by
    simp only [control, Pulse.writeControl, extractLsb'_zero_eq, BitVec.setWidth_ushiftRight_eq_extractLsb]
  have hsweep (p : Pulse) : p.writeSweep d = sweep p := by
    simp only [sweep, Pulse.writeSweep, extractLsb'_zero_eq, BitVec.setWidth_ushiftRight_eq_extractLsb]
  have hrestart (p : Pulse) : p.writeTimerHigh d = restart p := by
    simp only [Pulse.writeTimerHigh, hload]
    rfl
  refine ⟨⟨?_, ?_, rfl, ?_⟩, ⟨?_, ?_, rfl, ?_⟩, ⟨?triControl, rfl, ?triHigh⟩,
    ⟨?noiseControl, ?noisePeriod, ?noiseLength⟩, fun r hr => ?unused⟩
  case triControl => simp only [Apu.write, Triangle.writeControl, extractLsb'_zero_eq]
  case triHigh =>
    simp only [Apu.write, Triangle.writeTimerHigh, hload]
    rfl
  case noiseControl => simp only [Apu.write, Noise.writeControl, extractLsb'_zero_eq]
  case noisePeriod => simp only [Apu.write, Noise.writePeriod, extractLsb'_zero_eq]
  case noiseLength => simp only [Apu.write, Noise.writeLength, hload]
  case unused => fin_cases hr <;> rfl
  all_goals simp only [Apu.write, hcontrol, hsweep, hrestart]

/-- The status byte as bits (R512). -/
theorem ofNat_statusBits :
    ∀ b1 b2 bt bn : Bool,
      BitVec.ofNat 8 (b1.toNat + b2.toNat * 2 + bt.toNat * 4 + bn.toNat * 8) =
        (if b1 then 1#8 else 0#8) ||| (if b2 then 2#8 else 0#8) ||| (if bt then 4#8 else 0#8) |||
          (if bn then 8#8 else 0#8) := by
  decide

theorem status_eq (a : Apu) :
    a.status =
      (if a.pulse1.length = 0#8 then 0#8 else 1#8) ||| (if a.pulse2.length = 0#8 then 0#8 else 2#8) |||
          (if a.triangle.length = 0#8 then 0#8 else 4#8) |||
        (if a.noise.length = 0#8 then 0#8 else 8#8) := by
  rw [Apu.status, ofNat_statusBits]
  simp only [bne_iff_ne, ne_eq, ite_not]

theorem writeFrameCounter_eq (a : Apu) (d : Byte) :
    a.writeFrameCounter d =
      if d.getLsbD 7 then
        { a with frameMode := true, irqInhibit := d.getLsbD 6, frameCounter := 0 }.quarterFrame.halfFrame
      else { a with frameMode := false, irqInhibit := d.getLsbD 6, frameCounter := 0 } := by
  unfold Apu.writeFrameCounter
  cases d.getLsbD 7 <;> rfl

/-- Settles O51: the enables as they are written, the status by its bits, the frame counter by its mode. -/
theorem apuStatusAndSequencer : Obligations.ApuStatusAndSequencer :=
  fun a d => ⟨rfl, status_eq a, writeFrameCounter_eq a d⟩

end Sys2Proof.Proofs
end

section
/-! The units that the frame sequencer clocks (R470, R482 to R486, R493): envelopes, counters, sweeps. -/

namespace Sys2Proof.Proofs

open Sys2Proof.Machine Sys2Proof.Laws

theorem envelope_clock_eq (vol : BitVec 4) (loop : Bool) (e : Envelope) :
    e.clock vol loop =
      if e.start then ⟨false, vol, 15#4⟩
      else if e.div ≠ 0#4 then { e with div := e.div - 1#4 }
      else if e.decay ≠ 0#4 then { e with div := vol, decay := e.decay - 1#4 }
      else { e with div := vol, decay := if loop then 15#4 else 0#4 } := by
  unfold Envelope.clock
  by_cases hdecay : e.decay = 0#4
  · simp [hdecay]
  · simp [hdecay]

/-- A counter that stops at 0. -/
theorem toNat_countdown {w : Nat} (x : BitVec (w + 1)) :
    (if x ≠ 0#(w + 1) then x - 1#(w + 1) else x).toNat = x.toNat - 1 := by
  split
  · next h =>
    have hpos : 0 < x.toNat := BitVec.toNat_pos_of_ne_zero h
    rw [BitVec.toNat_sub_of_le (by rw [BitVec.le_def, BitVec.toNat_one]; omega; omega), BitVec.toNat_one (by omega)]
  · next h =>
    rw [not_not.mp h]
    rfl

theorem lengthClock_toNat (halt : Bool) (n : Byte) :
    (lengthClock halt n).toNat = if halt then n.toNat else n.toNat - 1 := by
  cases halt
  · simpa [lengthClock] using toNat_countdown n
  · rfl

theorem linearClock_linCounter_toNat (t : Triangle) :
    t.linearClock.linCounter.toNat = if t.linReload then t.linReloadVal.toNat else t.linCounter.toNat - 1 := by
  simp only [Triangle.linearClock]
  split
  · rfl
  · exact toNat_countdown t.linCounter

theorem linearClock_linReload (t : Triangle) : t.linearClock.linReload = (t.linReload && t.control) := by
  unfold Triangle.linearClock
  cases t.control <;> simp

theorem sweepTarget_eq (first : Bool) (p : Pulse) :
    p.sweepTarget first =
      let change := p.timerPeriod.toNat / 2 ^ p.swShift.toNat
      if p.swNegate then p.timerPeriod.toNat - (change + if first then 1 else 0) else p.timerPeriod.toNat + change := by
  unfold Pulse.sweepTarget
  rw [Nat.shiftRight_eq_div_pow]
  cases p.swNegate <;> cases first <;> simp [Nat.sub_sub]

/-- The two conditions that mute a sweep (R483). -/
theorem sweepMute_iff (first : Bool) (p : Pulse) :
    p.sweepMute first = true ↔ p.timerPeriod.toNat < 8 ∨ 0x7FF < p.sweepTarget first := by
  simp only [Pulse.sweepMute, Bool.or_eq_true, decide_eq_true_eq]

theorem sweepMute_eq_false_iff (first : Bool) (p : Pulse) :
    p.sweepMute first = false ↔ 8 ≤ p.timerPeriod.toNat ∧ p.sweepTarget first ≤ 0x7FF := by
  rw [← Bool.not_eq_true, sweepMute_iff, not_or, not_lt, not_lt]

/-- A sweep that fires sets the period to its target, which fits (R484). -/
theorem sweepClock_timerPeriod_toNat (first : Bool) (p : Pulse) :
    (p.sweepClock first).timerPeriod.toNat =
      if p.swDiv = 0#3 ∧ p.swEnable = true ∧ p.swShift ≠ 0#3 ∧ 8 ≤ p.timerPeriod.toNat ∧
          p.sweepTarget first ≤ 0x7FF then p.sweepTarget first
      else p.timerPeriod.toNat := by
  simp only [Pulse.sweepClock, sweepMute_eq_false_iff]
  split
  · next h =>
    obtain ⟨-, -, -, -, hle⟩ := h
    exact Nat.mod_eq_of_lt (by omega)
  · rfl

theorem sweepClock_swReload (first : Bool) (p : Pulse) : (p.sweepClock first).swReload = false := by
  simp [Pulse.sweepClock]

/-- Settles O52: each unit by its lemma, the events changing the rest of the record in nothing. -/
theorem sequencerEvents : Obligations.SequencerEvents := by
  intro a env len q h
  refine ⟨⟨envelope_clock_eq .., envelope_clock_eq .., envelope_clock_eq .., linearClock_linCounter_toNat _,
    linearClock_linReload _⟩, ⟨rfl, rfl⟩, lengthClock_toNat .., lengthClock_toNat .., lengthClock_toNat ..,
    lengthClock_toNat .., fun r => ?_⟩
  have hsweep (p : Pulse) := sweepClock_timerPeriod_toNat r p.lengthClock
  simp only [sweepTarget_eq] at hsweep
  cases r
  · exact ⟨hsweep a.pulse2, rfl, sweepClock_swReload ..⟩
  · exact ⟨hsweep a.pulse1, rfl, sweepClock_swReload ..⟩

end Sys2Proof.Proofs
end

section
/-! One clock of the APU (R463, R466, R480, R492, R502, R503): the three kinds of clock, and what its ticks do. -/

namespace Sys2Proof.Proofs

open Sys2Proof.Machine Sys2Proof.Laws

/-- The units that the sequencer clocks at a count, the counts written out (R466). -/
def frameEvents (n : Nat) (a : Apu) : Apu :=
  if n = 7457 ∨ n = 22371 then a.quarterFrame
  else if n = 14913 ∨ n = if a.frameMode then 37281 else 29829 then a.quarterFrame.halfFrame
  else a

/-- The units clocked at a count keep what both events keep. -/
theorem frameEvents_keeps {β : Type} (g : Apu → β) (hq : ∀ b, g b.quarterFrame = g b) (hh : ∀ b, g b.halfFrame = g b)
    (n : Nat) (a : Apu) : g (frameEvents n a) = g a := by
  unfold frameEvents
  by_cases hquarter : n = 7457 ∨ n = 22371
  · rw [if_pos hquarter, hq]
  · rw [if_neg hquarter]
    by_cases hhalf : n = 14913 ∨ n = if a.frameMode then 37281 else 29829
    · rw [if_pos hhalf, hh, hq]
    · rw [if_neg hhalf]

theorem frameSequencerTick_eq (a : Apu) :
    a.frameSequencerTick =
      { frameEvents (a.frameCounter + 1) a with
        frameCounter :=
          if a.frameCounter + 1 = if a.frameMode then 37282 else 29830 then 0 else a.frameCounter + 1 } := by
  have hmode : (frameEvents (a.frameCounter + 1) a).frameMode = a.frameMode :=
    frameEvents_keeps Apu.frameMode (fun _ => rfl) (fun _ => rfl) _ a
  have hevents :
      (if quarterCount (a.frameCounter + 1) then a.quarterFrame
        else if halfCount a.frameMode (a.frameCounter + 1) then a.quarterFrame.halfFrame
        else a) = frameEvents (a.frameCounter + 1) a := by
    simp only [quarterCount, halfCount, Bool.or_eq_true, beq_iff_eq, frameEvents]
  simp only [Apu.frameSequencerTick, hevents, hmode, wrapCount]

theorem triangleTimerTick_eq (t : Triangle) :
    t.timerTick =
      if t.timer = 0#11 then
        { t with
          timer := t.timerPeriod
          step := if 0 < t.length.toNat ∧ 0 < t.linCounter.toNat then t.step + 1#5 else t.step }
      else { t with timer := t.timer - 1#11 } := by
  have hlength : t.length ≠ 0#8 ↔ 0 < t.length.toNat := by bv_omega
  have hlinear : t.linCounter ≠ 0#7 ↔ 0 < t.linCounter.toNat := by bv_omega
  simp only [Triangle.timerTick, hlength, hlinear]

theorem noisePeriod_eq (i : BitVec 4) : noisePeriod i = noisePeriodTable.getD i.toNat 0 := by
  revert i; decide

theorem noiseTimerTick_eq (n : Noise) :
    n.timerTick =
      if n.timer ≠ 0#12 then { n with timer := n.timer - 1#12 }
      else
        { n with
          timer := BitVec.ofNat 12 (noisePeriodTable.getD n.periodIndex.toNat 0 / 2 - 1)
          lfsr :=
            (n.lfsr >>> 1) |||
              if n.lfsr.getLsbD 0 != n.lfsr.getLsbD (if n.mode then 6 else 1) then 0x4000#15 else 0#15 } := by
  rw [ite_not, ← noisePeriod_eq]
  unfold Noise.timerTick lfsrShift
  cases n.mode <;> rfl

/-- Without a tick only the divider moves (R463). -/
theorem clock_of_other {a : Apu} (h3 : a.div % 3 ≠ 0) : a.clock = { a with div := (a.div + 1) % 6 } := by
  have h0 : a.div ≠ 0 := fun h0 => h3 (by rw [h0])
  simp only [Apu.clock, h3, h0, if_false]

/-- The CPU-rate tick alone (R463). -/
theorem clock_of_third {a : Apu} (h3 : a.div % 3 = 0) (h0 : a.div ≠ 0) :
    a.clock = { a.cpuRateTick with div := (a.div + 1) % 6 } := by
  simp only [Apu.clock, h3, h0, if_true, if_false]

/-- The CPU-rate tick, then the APU-rate tick (R463). -/
theorem clock_of_sixth {a : Apu} (h0 : a.div = 0) :
    a.clock = { a.cpuRateTick.apuRateTick with div := (a.div + 1) % 6 } := by
  simp only [Apu.clock, h0, Nat.zero_mod, if_true]

/-- The three kinds of APU clock. -/
theorem clock_cases (a : Apu) :
    a.clock = { a with div := (a.div + 1) % 6 } ∨
      a.clock = { a.cpuRateTick with div := (a.div + 1) % 6 } ∨
        a.clock = { a.cpuRateTick.apuRateTick with div := (a.div + 1) % 6 } := by
  by_cases h3 : a.div % 3 = 0
  · by_cases h0 : a.div = 0
    · exact .inr (.inr (clock_of_sixth h0))
    · exact .inr (.inl (clock_of_third h3 h0))
  · exact .inl (clock_of_other h3)

/-- The APU-rate tick is not seen by the sequencer and the triangle. -/
theorem clock_sequencer_triangle {a : Apu} (h3 : a.div % 3 = 0) :
    a.clock.frameCounter = a.cpuRateTick.frameCounter ∧ a.clock.triangle = a.cpuRateTick.triangle := by
  by_cases h0 : a.div = 0
  · rw [clock_of_sixth h0]
    exact ⟨rfl, rfl⟩
  · rw [clock_of_third h3 h0]
    exact ⟨rfl, rfl⟩

theorem cpuRateTick_eq (a : Apu) :
    a.cpuRateTick =
      { frameEvents (a.frameCounter + 1) { a with triangle := a.triangle.timerTick } with
        frameCounter :=
          if a.frameCounter + 1 = if a.frameMode then 37282 else 29830 then 0 else a.frameCounter + 1 } :=
  frameSequencerTick_eq _

/-- A CPU-rate tick keeps what the sequencer's events and the two parts of the tick's own keep. -/
theorem cpuRateTick_keeps {β : Type} (g : Apu → β) (hq : ∀ b, g b.quarterFrame = g b)
    (hh : ∀ b, g b.halfFrame = g b) (hc : ∀ b n, g { b with frameCounter := n } = g b)
    (ht : ∀ b t, g { b with triangle := t } = g b) (a : Apu) : g a.cpuRateTick = g a := by
  rw [cpuRateTick_eq, hc, frameEvents_keeps g hq hh, ht]

theorem cpuRateTick_frameMode (a : Apu) : a.cpuRateTick.frameMode = a.frameMode :=
  cpuRateTick_keeps Apu.frameMode (fun _ => rfl) (fun _ => rfl) (fun _ _ => rfl) (fun _ _ => rfl) a

theorem cpuRateTick_irqInhibit (a : Apu) : a.cpuRateTick.irqInhibit = a.irqInhibit :=
  cpuRateTick_keeps Apu.irqInhibit (fun _ => rfl) (fun _ => rfl) (fun _ _ => rfl) (fun _ _ => rfl) a

/-- A CPU-rate tick moves the length counter and the envelope of the noise channel alone. -/
theorem cpuRateTick_noise (a : Apu) :
    { a.cpuRateTick.noise with length := a.noise.length, env := a.noise.env } = a.noise :=
  cpuRateTick_keeps (fun b => { b.noise with length := a.noise.length, env := a.noise.env }) (fun _ => rfl)
    (fun _ => rfl) (fun _ _ => rfl) (fun _ _ => rfl) a

theorem cpuRateTick_lfsr (a : Apu) : a.cpuRateTick.noise.lfsr = a.noise.lfsr :=
  congrArg (·.lfsr) (cpuRateTick_noise a)

theorem clock_frameMode (a : Apu) : a.clock.frameMode = a.frameMode := by
  rcases clock_cases a with hb | hb | hb <;> rw [hb]
  · exact cpuRateTick_frameMode a
  · exact cpuRateTick_frameMode a

theorem clock_irqInhibit (a : Apu) : a.clock.irqInhibit = a.irqInhibit := by
  rcases clock_cases a with hb | hb | hb <;> rw [hb]
  · exact cpuRateTick_irqInhibit a
  · exact cpuRateTick_irqInhibit a

/-- The noise register never becomes 0 (R503). -/
theorem clock_lfsr_ne_zero {a : Apu} (h : a.noise.lfsr ≠ 0#15) : a.clock.noise.lfsr ≠ 0#15 := by
  have htick : a.cpuRateTick.noise.lfsr ≠ 0#15 := cpuRateTick_lfsr a ▸ h
  rcases clock_cases a with hb | hb | hb <;> rw [hb]
  · exact h
  · exact htick
  · exact noiseTimerTick_lfsr htick

/-- Settles O53: by the three kinds of clock, the sequencer's events keeping the noise timer and register. -/
theorem apuClocking : Obligations.ApuClocking := by
  intro a b n quarter half period noisePeriods t t' cpuRate pulse
  have htick : a.cpuRateTick = { cpuRate with frameCounter := if n = period then 0 else n } := by
    rw [cpuRateTick_eq, triangleTimerTick_eq]
    rfl
  refine ⟨apuClock_div a, clock_of_other, fun h3 => ?sequencer, fun h3 => ?triangle, fun h3 h0 => ?third,
    fun h0 => ?sixth, ⟨clock_frameMode a, clock_irqInhibit a⟩, clock_lfsr_ne_zero⟩
  case sequencer => rw [(clock_sequencer_triangle h3).1, htick]
  case triangle => rw [(clock_sequencer_triangle h3).2, htick]
  case third =>
    rw [show b = _ from clock_of_third h3 h0, htick]
    exact ⟨rfl, rfl, rfl⟩
  case sixth =>
    have hnoise : { cpuRate.noise with length := a.noise.length, env := a.noise.env } = a.noise := by
      have := cpuRateTick_noise a
      rwa [htick] at this
    rw [show b = _ from clock_of_sixth h0, htick, ← hnoise]
    exact ⟨rfl, rfl, noiseTimerTick_eq _⟩

end Sys2Proof.Proofs
end

section
/-! The outputs of the channels (R481 to R483, R488, R494, R504) and the mixed sample (R520). -/

namespace Sys2Proof.Proofs

open Sys2Proof.Machine Sys2Proof.Laws

/-- `DUTY` (R481), its bits as numbers. -/
def dutyTable : List (List Nat) :=
  [[0, 1, 0, 0, 0, 0, 0, 0], [0, 1, 1, 0, 0, 0, 0, 0], [0, 1, 1, 1, 1, 0, 0, 0], [1, 0, 0, 1, 1, 1, 1, 1]]

theorem dutyBit_eq_false_iff :
    ∀ (duty : BitVec 2) (seq : BitVec 3),
      dutyBit duty seq = false ↔ (dutyTable.getD duty.toNat []).getD seq.toNat 0 = 0 := by
  decide

/-- `TRIANGLE` (R494), as a list. -/
def triangleLevels : List Nat := (List.range 16).reverse ++ List.range 16

theorem triangleOut_eq (t : Triangle) : t.out = triangleLevels.getD t.step.toNat 0 := by
  have hlevels : ∀ step : BitVec 5, triangleTable step = triangleLevels.getD step.toNat 0 := by decide
  exact hlevels t.step

theorem pulseOut_eq (first : Bool) (p : Pulse) :
    p.out first =
      if p.length = 0#8 ∨ (dutyTable.getD p.duty.toNat []).getD p.seq.toNat 0 = 0 ∨ p.timerPeriod.toNat < 8 ∨
          0x7FF < p.sweepTarget first then 0
      else if p.constVol then p.vol.toNat else p.env.decay.toNat := by
  simp only [Pulse.out, dutyBit_eq_false_iff, sweepMute_iff, volumeOf]

/-- Settles O54: each output by its table, the formula as the mixer has it, and its bounds. -/
theorem mixedSample : Obligations.MixedSample := by
  intro a p t n duties triangles volume pulse
  have hpulse (first : Bool) (q : Pulse) : q.out first = pulse first q := by
    rw [pulseOut_eq, sweepTarget_eq]
    rfl
  have hmix : a.mix =
      (if p = 0 then 0 else (9588 / 100) / (8128 / p + 100)) +
        (if t = 0 ∧ n = 0 then 0 else (15979 / 100) / (1 / (t / 8227 + n / 12241) + 100)) := by
    simp only [Apu.mix, pulseMix, tndMix, p, t, n, Nat.cast_eq_zero]
  obtain ⟨hnonneg, hle⟩ := mix_bounds a
  exact ⟨⟨hpulse true _, hpulse false _, triangleOut_eq _, rfl⟩, pulseOut_le true _, pulseOut_le false _,
    triangleOut_le _, noiseOut_le _, hmix, hnonneg, hle.trans_lt (by norm_num)⟩

end Sys2Proof.Proofs
end

section
/-! Loading a ROM image (R541 to R544): one lemma for each result, in the order of the checks. -/

namespace Sys2Proof.Proofs

open Sys2Proof.Machine Sys2Proof.Laws

theorem imageSlice_read {image : List Byte} {start count i : Nat} (hi : i < count) :
    Memory.read (imageSlice image start count) i = image.getD (start + i) 0#8 := by
  rw [imageSlice, memory_read_ofBytes, List.getD_eq_getElem?_getD, List.getD_eq_getElem?_getD,
    List.getElem?_take_of_lt hi, List.getElem?_drop]

theorem take_four_eq_iff {image : List Byte} (h : 16 ≤ image.length) (b0 b1 b2 b3 : Byte) :
    image.take 4 = [b0, b1, b2, b3] ↔
      image.getD 0 0#8 = b0 ∧ image.getD 1 0#8 = b1 ∧ image.getD 2 0#8 = b2 ∧ image.getD 3 0#8 = b3 := by
  match image, h with
  | _ :: _ :: _ :: _ :: _, _ => simp

theorem headerPrgOffset_eq (image : List Byte) :
    headerPrgOffset image = if (imageByte image 6).getLsbD 2 then 528 else 16 := by
  unfold headerPrgOffset
  split <;> rfl

theorem mem_mappers_iff {id : Byte} : id ∈ mappers ↔ id = 0#8 := List.mem_singleton

theorem toNat_eq_zero_iff {b : Byte} : b.toNat = 0 ↔ b = 0#8 := by bv_omega

/-- The length that the header of an image asks for (R541, R542). -/
def headerSize (image : List Byte) : Nat :=
  headerPrgOffset image + 16384 * (imageByte image 4).toNat + 8192 * (imageByte image 5).toNat

/-- The cartridge of an image in which no check fails (R542). -/
def loadedCartridge (image : List Byte) (chrRam ntExt : Memory) : Cartridge :=
  let prgBanks := (imageByte image 4).toNat
  let chrBanks := (imageByte image 5).toNat
  let o := headerPrgOffset image
  { prg := imageSlice image o (16384 * prgBanks)
    chr := if chrBanks = 0 then chrRam else imageSlice image (o + 16384 * prgBanks) (8192 * chrBanks)
    prgBanks := prgBanks
    chrBanks := chrBanks
    mapperId := headerMapperId image
    mirroring := headerMirroring image
    battery := (imageByte image 6).getLsbD 1
    ntExt := if headerMirroring image = .fourScreen then ntExt else [] }

section Load
variable {image : List Byte} (chrRam ntExt : Memory)

theorem loadImage_of_short (h : image.length < 16) : loadImage (some image) chrRam ntExt = .error .truncated := if_pos h

theorem loadImage_of_badMagic (hlen : 16 ≤ image.length) (h : image.take 4 ≠ [0x4E#8, 0x45#8, 0x53#8, 0x1A#8]) :
    loadImage (some image) chrRam ntExt = .error .badMagic := by
  rw [loadImage, if_neg (by omega), if_pos h]

variable (hlen : 16 ≤ image.length) (hmagic : image.take 4 = [0x4E#8, 0x45#8, 0x53#8, 0x1A#8])
include hlen hmagic

/-- The checks after the magic bytes: the length, the program, the mapper. -/
theorem loadImage_of_magic :
    loadImage (some image) chrRam ntExt =
      if image.length < headerSize image then .error .truncated
      else if (imageByte image 4).toNat = 0 then .error .noProgram
      else if headerMapperId image ∉ mappers then .error (.unsupportedMapper (headerMapperId image))
      else .ok (loadedCartridge image chrRam ntExt) := by
  rw [loadImage, if_neg (by omega), if_neg (not_not.mpr hmagic)]
  rfl

theorem loadImage_of_truncated (h : image.length < headerSize image) :
    loadImage (some image) chrRam ntExt = .error .truncated := by
  rw [loadImage_of_magic chrRam ntExt hlen hmagic, if_pos h]

variable (hsize : headerSize image ≤ image.length)
include hsize

theorem loadImage_of_noProgram (h : imageByte image 4 = 0#8) :
    loadImage (some image) chrRam ntExt = .error .noProgram := by
  rw [loadImage_of_magic chrRam ntExt hlen hmagic, if_neg (by omega), if_pos (toNat_eq_zero_iff.mpr h)]

variable (hprg : imageByte image 4 ≠ 0#8)
include hprg

theorem loadImage_of_mapper (h : headerMapperId image ≠ 0#8) :
    loadImage (some image) chrRam ntExt = .error (.unsupportedMapper (headerMapperId image)) := by
  rw [loadImage_of_magic chrRam ntExt hlen hmagic, if_neg (by omega), if_neg (mt toNat_eq_zero_iff.mp hprg),
    if_pos (mt mem_mappers_iff.mp h)]

theorem loadImage_of_ok (h : headerMapperId image = 0#8) :
    loadImage (some image) chrRam ntExt = .ok (loadedCartridge image chrRam ntExt) := by
  rw [loadImage_of_magic chrRam ntExt hlen hmagic, if_neg (by omega), if_neg (mt toNat_eq_zero_iff.mp hprg),
    if_neg (not_not.mpr (mem_mappers_iff.mpr h))]

end Load

theorem loadedCartridge_prg_read (image : List Byte) (chrRam ntExt : Memory) {i : Nat}
    (hi : i < 16384 * (imageByte image 4).toNat) :
    Memory.read (loadedCartridge image chrRam ntExt).prg i = imageByte image (headerPrgOffset image + i) :=
  imageSlice_read hi

theorem loadedCartridge_chr_read {image : List Byte} (chrRam ntExt : Memory) {i : Nat} (h : imageByte image 5 ≠ 0#8)
    (hi : i < 8192 * (imageByte image 5).toNat) :
    Memory.read (loadedCartridge image chrRam ntExt).chr i =
      imageByte image (headerPrgOffset image + 16384 * (imageByte image 4).toNat + i) := by
  rw [loadedCartridge, if_neg (mt toNat_eq_zero_iff.mp h)]
  exact imageSlice_read hi

theorem loadedCartridge_chrRam {image : List Byte} (chrRam ntExt : Memory) (h : imageByte image 5 = 0#8) :
    (loadedCartridge image chrRam ntExt).chr = chrRam :=
  if_pos (toNat_eq_zero_iff.mpr h)

theorem insertCartridge_of_error {file : Option (List Byte)} {chrRam ntExt : Memory} {e : LoadError}
    (h : loadImage file chrRam ntExt = .error e) (s : State) :
    insertCartridge file chrRam ntExt s = (.error e, s) := by
  rw [insertCartridge, h]

theorem insertCartridge_of_ok {file : Option (List Byte)} {chrRam ntExt : Memory} {c : Cartridge}
    (h : loadImage file chrRam ntExt = .ok c) (s : State) :
    insertCartridge file chrRam ntExt s = (.ok (), { s with cart := some c }) := by
  rw [insertCartridge, h]

/-- Settles O57: each result of the load by its lemma. -/
theorem insertCartridge : Obligations.InsertCartridge := by
  intro image chrRam ntExt s load at' o prg chr magic mapper
  have hmagic (hlen : 16 ≤ image.length) : image.take 4 = [0x4E#8, 0x45#8, 0x53#8, 0x1A#8] ↔ magic :=
    take_four_eq_iff hlen ..
  have ho : headerPrgOffset image = o := headerPrgOffset_eq image
  have hsize : headerSize image = o + prg + chr := by
    rw [headerSize, ho]
    rfl
  rw [← hsize]
  refine ⟨rfl, fun h => ?short, fun hlen hm => ?badMagic, fun hlen hm h => ?truncated, fun hlen hm h hprg => ?noProgram,
    fun hlen hm h hprg hmapper => ?mapper, fun hlen hm h hprg hmapper => ?ok⟩
  case short => exact insertCartridge_of_error (loadImage_of_short _ _ h) s
  case badMagic => exact insertCartridge_of_error (loadImage_of_badMagic _ _ hlen (mt (hmagic hlen).mp hm)) s
  all_goals replace hm := (hmagic hlen).mpr hm
  case truncated => exact insertCartridge_of_error (loadImage_of_truncated _ _ hlen hm h) s
  case noProgram => exact insertCartridge_of_error (loadImage_of_noProgram _ _ hlen hm h hprg) s
  case mapper => exact insertCartridge_of_error (loadImage_of_mapper _ _ hlen hm h hprg hmapper) s
  case ok =>
    rw [← ho]
    exact ⟨_, insertCartridge_of_ok (loadImage_of_ok _ _ hlen hm h hprg hmapper) s, rfl, rfl, hmapper, rfl, rfl,
      fun _ => loadedCartridge_prg_read image _ _, fun _ => loadedCartridge_chr_read _ _, loadedCartridge_chrRam _ _,
      fun hfour => if_pos hfour⟩

end Sys2Proof.Proofs
end

section
/-! The state after reset (R570 to R576). -/

namespace Sys2Proof.Proofs

open Sys2Proof.Machine Sys2Proof.Laws

/-- Settles O31: the equation of `Bus.reset()`, its parts written out. -/
theorem resetResult : Obligations.ResetResult := busReset_eq

end Sys2Proof.Proofs
end
